-- ==== Sys2Proof/Word.lean ====
section
/-! DEFINITION. The bit-vector types of the block (00_scope.md R7, R9) and nothing else.
-/

namespace Sys2Proof

/-- One byte on the bus. -/
abbrev Byte := BitVec 8

/-- A 16-bit register word (00_scope.md R7). -/
abbrev Word := BitVec 16

/-- A 7-bit bus address (00_scope.md R7). -/
abbrev BusAddr := BitVec 7

/-- An 8-bit register number as it goes on the bus (20_memory.md R40). -/
abbrev RegNum := BitVec 8

/-- A 64-bit command word (30_encoding.md R70). -/
abbrev CmdWord := BitVec 64

end Sys2Proof
end

