-- ==== Sys2Proof/Config.lean ====
section
/-! DEFINITION. What this implementation fixes (00_scope.md R7 to R10), the vocabulary of the bus port
(20_memory.md R44 to R50), and the one free value of the model: what the bus environment answers (R52).
-/

namespace Sys2Proof

/-- Why a register transaction failed (20_memory.md R50). -/
inductive FailKind where
  | noack
  | timeout
  | arblost
  | other
  deriving DecidableEq, Repr, Inhabited

/-- What the transport reports of one transaction: it went through, or it failed and how. The two bytes
are those a read returns, first byte first; a quick write and a write return none and do not look at
them (assumption log 4, DESIGN CHOICE). -/
inductive Answer where
  | ok (b0 b1 : Byte)
  | fail (k : FailKind)
  deriving DecidableEq, Repr, Inhabited

/-- A transaction the block issues (20_memory.md R45 to R47). -/
inductive Request where
  | quick (a : BusAddr)
  | read (a : BusAddr) (r : RegNum)
  | write (a : BusAddr) (r : RegNum) (b0 b1 : Byte)
  deriving DecidableEq, Repr

/-- Outcome of a quick write (20_memory.md R45). -/
inductive QuickOutcome where
  | ack
  | noack
  deriving DecidableEq, Repr

/-- Outcome of a register read (20_memory.md R46). -/
inductive ReadOutcome where
  | ok (b0 b1 : Byte)
  | fail (k : FailKind)
  deriving DecidableEq, Repr

/-- Outcome of a register write (20_memory.md R47). -/
inductive WriteOutcome where
  | ok
  | fail (k : FailKind)
  deriving DecidableEq, Repr

/-- One completed transaction with its outcome, an entry of the transaction history (10_state.md R38). -/
inductive Txn where
  | quick (a : BusAddr) (o : QuickOutcome)
  | read (a : BusAddr) (r : RegNum) (o : ReadOutcome)
  | write (a : BusAddr) (r : RegNum) (b0 b1 : Byte) (o : WriteOutcome)
  deriving DecidableEq, Repr

namespace Config

/-- `PROBE_LO`, the lowest bus address of the block (00_scope.md R7). -/
def probeLo : BusAddr := 0x03#7

/-- `PROBE_HI`, the highest bus address of the block (00_scope.md R7). -/
def probeHi : BusAddr := 0x76#7

/-- `VBUS_LSB_MV`: millivolts per count of the bus-voltage field (00_scope.md R7). -/
def vbusLsbMv : Nat := 4

/-- `PLSB_RATIO`: power LSB over current LSB (00_scope.md R7). -/
def plsbRatio : Nat := 20

/-- `CAL_NUM`: the calibration numerator in uA times mOhm (00_scope.md R8). -/
def calNum : Nat := 40960000

/-- `LSB_SELECT`, a parameter of the model that the spec fixes to the constant 100 uA per bit on this
hardware (00_scope.md R10, 10_state.md R37; assumption log 16). -/
def lsbSelect (_shunt _imax : BitVec 16) (_brng : BitVec 1) (_pg : BitVec 2) (_badc _sadc : BitVec 4) : BitVec 16 :=
  100#16

/-- FREE VALUE (20_memory.md R52, 93 U6; assumption log 3): the transport's answer to a transaction, given
the whole history of transactions before it. It has no body: no statement can rest on what it is. -/
opaque envAnswer : List Txn → Request → Answer

end Config

end Sys2Proof
end

