-- ==== Sys2Proof/Syntax.lean ====
section
/-! DEFINITION. The 22 commands of `I2CRD-CMD v1` (30_encoding.md R75), one constructor per row of
spec/opcode_table.json, operands in the order of the assembler notation (30_encoding.md R93). Each operand
has exactly the width its format gives it (30_encoding.md R72), so a field code cannot exceed its field
(41_config_codec.md R126).
-/

namespace Sys2Proof

/-- A command with its operands. -/
inductive Instr where
  /-- RDW `reg` (40_bus_access.md R100) -/
  | rdw (reg : RegNum)
  /-- WRW `reg`, `val` (40_bus_access.md R101) -/
  | wrw (reg : RegNum) (val : Word)
  /-- PROBE (40_bus_access.md R102) -/
  | probe
  /-- ENCCFG `brng`, `pg`, `badc`, `sadc`, `mode` (41_config_codec.md R121) -/
  | enccfg (brng : BitVec 1) (pg : BitVec 2) (badc sadc : BitVec 4) (mode : BitVec 3)
  /-- DECCFG `raw` (41_config_codec.md R122) -/
  | deccfg (raw : Word)
  /-- DECS16 `raw` (42_reading_decode.md R130) -/
  | decs16 (raw : Word)
  /-- DECBV `raw` (42_reading_decode.md R131) -/
  | decbv (raw : Word)
  /-- CVTI `raw`, `scale` (43_scale_convert.md R140) -/
  | cvti (raw : Word) (scale : BitVec 24)
  /-- CVTV `count` (43_scale_convert.md R141) -/
  | cvtv (count : BitVec 13)
  /-- CVTP `raw`, `scale` (43_scale_convert.md R142) -/
  | cvtp (raw : Word) (scale : BitVec 24)
  /-- CALC (the constructor is `calcCal`, `calc` being a word of Lean) `shunt`, `imax`, `brng`, `pg`, `badc`, `sadc` (43_scale_convert.md R151) -/
  | calcCal (shunt imax : BitVec 16) (brng : BitVec 1) (pg : BitVec 2) (badc sadc : BitVec 4)
  /-- LOCATEA `addr` (44_driver_sequencer.md R160) -/
  | locatea (addr : BusAddr)
  /-- LOCATEP (44_driver_sequencer.md R161) -/
  | locatep
  /-- CONFIGURE `shunt`, `imax`, `brng`, `pg`, `badc`, `sadc`, `mode` (44_driver_sequencer.md R162) -/
  | configure (shunt imax : BitVec 16) (brng : BitVec 1) (pg : BitVec 2) (badc sadc : BitVec 4) (mode : BitVec 3)
  /-- ENABLE (44_driver_sequencer.md R163) -/
  | enable
  /-- RDCUR (44_driver_sequencer.md R164) -/
  | rdcur
  /-- RDVBUS (44_driver_sequencer.md R165) -/
  | rdvbus
  /-- RDPWR (44_driver_sequencer.md R166) -/
  | rdpwr
  /-- RECONF `shunt`, `imax`, `brng`, `pg`, `badc`, `sadc`, `mode` (44_driver_sequencer.md R167) -/
  | reconf (shunt imax : BitVec 16) (brng : BitVec 1) (pg : BitVec 2) (badc sadc : BitVec 4) (mode : BitVec 3)
  /-- CLOSE (44_driver_sequencer.md R168) -/
  | close
  /-- GETST (44_driver_sequencer.md R169) -/
  | getst
  /-- GETCAL (44_driver_sequencer.md R170) -/
  | getcal
  deriving DecidableEq, Repr

end Sys2Proof
end

