-- ==== Sys2Proof/WellFormed.lean ====
section
/-! DEFINITION. Which instructions are commands: the operand values a format can spell but the source's
types exclude (30_encoding.md R90 cases 3 to 5). Every other operand fills its field.
-/

namespace Sys2Proof

/-- The operand checks, one arm per command. RDW: one of the six registers (20_memory.md R40). WRW: one
of the two writable ones. LOCATEA: an address the block may use (20_memory.md R41). -/
def Instr.wellFormed : Instr → Bool
  | .rdw reg => decide (reg.toNat ≤ 5)
  | .wrw reg _ => decide (reg.toNat = 0 ∨ reg.toNat = 5)
  | .locatea addr => decide (Config.probeLo.toNat ≤ addr.toNat ∧ addr.toNat ≤ Config.probeHi.toNat)
  | .probe => true
  | .enccfg _ _ _ _ _ => true
  | .deccfg _ => true
  | .decs16 _ => true
  | .decbv _ => true
  | .cvti _ _ => true
  | .cvtv _ => true
  | .cvtp _ _ => true
  | .calcCal _ _ _ _ _ _ => true
  | .locatep => true
  | .configure _ _ _ _ _ _ _ => true
  | .enable => true
  | .rdcur => true
  | .rdvbus => true
  | .rdpwr => true
  | .reconf _ _ _ _ _ _ _ => true
  | .close => true
  | .getst => true
  | .getcal => true

/-- The instruction is a command of 30_encoding.md R90. -/
abbrev WellFormed (i : Instr) : Prop := i.wellFormed = true

end Sys2Proof
end

