-- ==== Sys2Proof/Decode.lean ====
section
/-! DEFINITION. Decoding a 64-bit command word (30_encoding.md R70 to R76, R90), total on every word and
rejecting by name, and after it the encoder, written from the same tables.
-/

namespace Sys2Proof

/-- The 22 mnemonics (30_encoding.md R75). -/
inductive Mnemonic where
  | rdw | wrw | probe
  | enccfg | deccfg
  | decs16 | decbv
  | cvti | cvtv | cvtp | calcCal
  | locatea | locatep | configure | enable | rdcur | rdvbus | rdpwr | reconf | close | getst | getcal
  deriving DecidableEq, Repr

/-- The ten formats (30_encoding.md R72). -/
inductive Format where
  | Z | W | V | S | F | RR | RW | L | C | K
  deriving DecidableEq, Repr

/-- Why a word is illegal: the five cases of 30_encoding.md R90, in its order. -/
inductive IllegalSub where
  | undefinedOpcode
  | mustBeZero
  | badRegister
  | readOnlyRegister
  | badAddress
  deriving DecidableEq, Repr

/-- The six device registers (20_memory.md R40). -/
inductive RegName where
  | config | shuntv | busv | power | current | calib
  deriving DecidableEq, Repr

/-- Every mnemonic, in the table's order. -/
def Mnemonic.all : List Mnemonic :=
  [.rdw, .wrw, .probe, .enccfg, .deccfg, .decs16, .decbv, .cvti, .cvtv, .cvtp, .calcCal] ++
  [.locatea, .locatep, .configure, .enable, .rdcur, .rdvbus, .rdpwr, .reconf, .close, .getst, .getcal]

/-- The opcode column of 30_encoding.md R75. -/
def Mnemonic.opcode : Mnemonic → BitVec 8
  | .rdw => 0x10#8
  | .wrw => 0x11#8
  | .probe => 0x12#8
  | .enccfg => 0x20#8
  | .deccfg => 0x21#8
  | .decs16 => 0x30#8
  | .decbv => 0x31#8
  | .cvti => 0x40#8
  | .cvtv => 0x41#8
  | .cvtp => 0x42#8
  | .calcCal => 0x43#8
  | .locatea => 0x50#8
  | .locatep => 0x51#8
  | .configure => 0x52#8
  | .enable => 0x53#8
  | .rdcur => 0x54#8
  | .rdvbus => 0x55#8
  | .rdpwr => 0x56#8
  | .reconf => 0x57#8
  | .close => 0x58#8
  | .getst => 0x59#8
  | .getcal => 0x5A#8

/-- The format column of 30_encoding.md R75. -/
def Mnemonic.format : Mnemonic → Format
  | .rdw => .RR
  | .wrw => .RW
  | .probe => .Z
  | .enccfg => .F
  | .deccfg => .W
  | .decs16 => .W
  | .decbv => .W
  | .cvti => .S
  | .cvtv => .V
  | .cvtp => .S
  | .calcCal => .K
  | .locatea => .L
  | .locatep => .Z
  | .configure => .C
  | .enable => .Z
  | .rdcur => .Z
  | .rdvbus => .Z
  | .rdpwr => .Z
  | .reconf => .C
  | .close => .Z
  | .getst => .Z
  | .getcal => .Z

/-- The must-be-zero bits of a format, in CMD bit positions (30_encoding.md R72; with the opcode bits they
are the masks of R76). -/
def Format.mustBeZero : Format → CmdWord
  | .Z  => 0x00FFFFFFFFFFFFFF#64
  | .W  => 0x00FFFFFFFFFF0000#64
  | .V  => 0x00FFFFFFFFFFE000#64
  | .S  => 0x00000000FFFF0000#64
  | .F  => 0x00FFFFFFFFFEC008#64
  | .RR => 0x00FFFF00FFFFFFFF#64
  | .RW => 0x00FFFF00FFFF0000#64
  | .L  => 0x00FFFF80FFFFFFFF#64
  | .C  => 0x00FEC00800000000#64
  | .K  => 0x00FEC00F00000000#64

/-- `OP = CMD[63:56]` (30_encoding.md R70). -/
def opField (w : CmdWord) : BitVec 8 := w.extractLsb' 56 8

/-- The command an opcode selects, if it is one of the 22 (30_encoding.md R75). -/
def Mnemonic.ofOpcode (op : BitVec 8) : Option Mnemonic := Mnemonic.all.find? (fun m => m.opcode == op)

/-- Operand assembly: each field as it stands, at the CMD bit positions of 30_encoding.md R72 and R73. -/
def readOperands (m : Mnemonic) (w : CmdWord) : Instr :=
  match m with
  | .rdw => .rdw (w.extractLsb' 32 8)
  | .wrw => .wrw (w.extractLsb' 32 8) (w.extractLsb' 0 16)
  | .probe => .probe
  | .enccfg =>
    .enccfg (w.extractLsb' 16 1) (w.extractLsb' 12 2) (w.extractLsb' 8 4) (w.extractLsb' 4 4) (w.extractLsb' 0 3)
  | .deccfg => .deccfg (w.extractLsb' 0 16)
  | .decs16 => .decs16 (w.extractLsb' 0 16)
  | .decbv => .decbv (w.extractLsb' 0 16)
  | .cvti => .cvti (w.extractLsb' 0 16) (w.extractLsb' 32 24)
  | .cvtv => .cvtv (w.extractLsb' 0 13)
  | .cvtp => .cvtp (w.extractLsb' 0 16) (w.extractLsb' 32 24)
  | .calcCal =>
    .calcCal (w.extractLsb' 16 16) (w.extractLsb' 0 16)
      (w.extractLsb' 48 1) (w.extractLsb' 44 2) (w.extractLsb' 40 4) (w.extractLsb' 36 4)
  | .locatea => .locatea (w.extractLsb' 32 7)
  | .locatep => .locatep
  | .configure =>
    .configure (w.extractLsb' 16 16) (w.extractLsb' 0 16)
      (w.extractLsb' 48 1) (w.extractLsb' 44 2) (w.extractLsb' 40 4) (w.extractLsb' 36 4) (w.extractLsb' 32 3)
  | .enable => .enable
  | .rdcur => .rdcur
  | .rdvbus => .rdvbus
  | .rdpwr => .rdpwr
  | .reconf =>
    .reconf (w.extractLsb' 16 16) (w.extractLsb' 0 16)
      (w.extractLsb' 48 1) (w.extractLsb' 44 2) (w.extractLsb' 40 4) (w.extractLsb' 36 4) (w.extractLsb' 32 3)
  | .close => .close
  | .getst => .getst
  | .getcal => .getcal

/-- The register a number names, if the enumeration has it (20_memory.md R40). -/
def RegName.ofNumber (r : RegNum) : Option RegName :=
  match r.toNat with
  | 0 => some .config
  | 1 => some .shuntv
  | 2 => some .busv
  | 3 => some .power
  | 4 => some .current
  | 5 => some .calib
  | _ => none

/-- The number of a register (20_memory.md R40). -/
def RegName.number : RegName → RegNum
  | .config => 0x00#8
  | .shuntv => 0x01#8
  | .busv => 0x02#8
  | .power => 0x03#8
  | .current => 0x04#8
  | .calib => 0x05#8

/-- "Read-only except Config and Calibration, which are read/write" (20_memory.md R40). -/
def RegName.writable : RegName → Bool
  | .config => true
  | .calib => true
  | .shuntv => false
  | .busv => false
  | .power => false
  | .current => false

/-- The registers whose words are signed (42_reading_decode.md R132). -/
def RegName.signed : RegName → Bool
  | .shuntv => true
  | .current => true
  | .config => false
  | .busv => false
  | .power => false
  | .calib => false

/-- Cases 3 to 5 of 30_encoding.md R90, in its order: the operand value that makes a spelled command
illegal, if there is one. -/
def operandFault : Instr → Option IllegalSub
  | .rdw reg =>
    match RegName.ofNumber reg with
    | none => some .badRegister
    | some _ => none
  | .wrw reg _ =>
    match RegName.ofNumber reg with
    | none => some .badRegister
    | some r => if r.writable then none else some .readOnlyRegister
  | .locatea addr => if addr < Config.probeLo || Config.probeHi < addr then some .badAddress else none
  | .probe => none
  | .enccfg _ _ _ _ _ => none
  | .deccfg _ => none
  | .decs16 _ => none
  | .decbv _ => none
  | .cvti _ _ => none
  | .cvtv _ => none
  | .cvtp _ _ => none
  | .calcCal _ _ _ _ _ _ => none
  | .locatep => none
  | .configure _ _ _ _ _ _ _ => none
  | .enable => none
  | .rdcur => none
  | .rdvbus => none
  | .rdpwr => none
  | .reconf _ _ _ _ _ _ _ => none
  | .close => none
  | .getst => none
  | .getcal => none

/-- 30_encoding.md R90: every word is exactly one command or illegal, the cases tested in order. -/
def decode (w : CmdWord) : Except IllegalSub Instr :=
  match Mnemonic.ofOpcode (opField w) with
  | none => .error .undefinedOpcode
  | some m =>
    if w &&& m.format.mustBeZero = 0#64 then
      match operandFault (readOperands m w) with
      | some sub => .error sub
      | none => .ok (readOperands m w)
    else .error .mustBeZero

/-- The `sub` numbers of 30_encoding.md R90. -/
def IllegalSub.code : IllegalSub → BitVec 64
  | .undefinedOpcode => 1#64
  | .mustBeZero => 2#64
  | .badRegister => 3#64
  | .readOnlyRegister => 4#64
  | .badAddress => 5#64

/-- The instruction the decoder reads from a row's bits. A command is one 64-bit word with no byte order
(30_encoding.md R70, 92 D32), so the table's numbering of the bits is the word itself. -/
def decodeTableWord (nbits w : Nat) : Option Instr :=
  match decode (BitVec.ofNat 64 (w % 2 ^ nbits)) with
  | .ok i => some i
  | .error _ => none

/-! ### The encoder -/

/-- The mnemonic of an instruction (30_encoding.md R75). -/
def Instr.mnemonic : Instr → Mnemonic
  | .rdw _ => .rdw
  | .wrw _ _ => .wrw
  | .probe => .probe
  | .enccfg _ _ _ _ _ => .enccfg
  | .deccfg _ => .deccfg
  | .decs16 _ => .decs16
  | .decbv _ => .decbv
  | .cvti _ _ => .cvti
  | .cvtv _ => .cvtv
  | .cvtp _ _ => .cvtp
  | .calcCal _ _ _ _ _ _ => .calcCal
  | .locatea _ => .locatea
  | .locatep => .locatep
  | .configure _ _ _ _ _ _ _ => .configure
  | .enable => .enable
  | .rdcur => .rdcur
  | .rdvbus => .rdvbus
  | .rdpwr => .rdpwr
  | .reconf _ _ _ _ _ _ _ => .reconf
  | .close => .close
  | .getst => .getst
  | .getcal => .getcal

/-- The FS slot layout, 20 bits: one field per 4-bit slot, right-aligned (30_encoding.md R71). -/
def packFs (brng : BitVec 1) (pg : BitVec 2) (badc sadc : BitVec 4) (mode : BitVec 3) : BitVec 20 :=
  (brng.setWidth 20 <<< 16) ||| (pg.setWidth 20 <<< 12) ||| (badc.setWidth 20 <<< 8) |||
    (sadc.setWidth 20 <<< 4) ||| mode.setWidth 20

/-- `B[31:16] = shunt`, `B[15:0] = imax` (30_encoding.md R72, formats C and K). -/
def packInputs (shunt imax : BitVec 16) : BitVec 32 := (shunt.setWidth 32 <<< 16) ||| imax.setWidth 32

/-- `OP = CMD[63:56]`, `A = CMD[55:32]`, `B = CMD[31:0]` (30_encoding.md R70). -/
def commandWord (m : Mnemonic) (a : BitVec 24) (b : BitVec 32) : CmdWord :=
  (m.opcode.setWidth 64 <<< 56) ||| (a.setWidth 64 <<< 32) ||| b.setWidth 64

/-- The command word of an instruction, format by format (30_encoding.md R72). -/
def encode : Instr → CmdWord
  | .rdw reg => commandWord .rdw (reg.setWidth 24) 0#32
  | .wrw reg val => commandWord .wrw (reg.setWidth 24) (val.setWidth 32)
  | .probe => commandWord .probe 0#24 0#32
  | .enccfg brng pg badc sadc mode => commandWord .enccfg 0#24 ((packFs brng pg badc sadc mode).setWidth 32)
  | .deccfg raw => commandWord .deccfg 0#24 (raw.setWidth 32)
  | .decs16 raw => commandWord .decs16 0#24 (raw.setWidth 32)
  | .decbv raw => commandWord .decbv 0#24 (raw.setWidth 32)
  | .cvti raw scale => commandWord .cvti scale (raw.setWidth 32)
  | .cvtv count => commandWord .cvtv 0#24 (count.setWidth 32)
  | .cvtp raw scale => commandWord .cvtp scale (raw.setWidth 32)
  | .calcCal shunt imax brng pg badc sadc => commandWord .calcCal ((packFs brng pg badc sadc 0#3).setWidth 24) (packInputs shunt imax)
  | .locatea addr => commandWord .locatea (addr.setWidth 24) 0#32
  | .locatep => commandWord .locatep 0#24 0#32
  | .configure shunt imax brng pg badc sadc mode =>
    commandWord .configure ((packFs brng pg badc sadc mode).setWidth 24) (packInputs shunt imax)
  | .enable => commandWord .enable 0#24 0#32
  | .rdcur => commandWord .rdcur 0#24 0#32
  | .rdvbus => commandWord .rdvbus 0#24 0#32
  | .rdpwr => commandWord .rdpwr 0#24 0#32
  | .reconf shunt imax brng pg badc sadc mode =>
    commandWord .reconf ((packFs brng pg badc sadc mode).setWidth 24) (packInputs shunt imax)
  | .close => commandWord .close 0#24 0#32
  | .getst => commandWord .getst 0#24 0#32
  | .getcal => commandWord .getcal 0#24 0#32

end Sys2Proof
end

