-- ==== Sys2Proof/Machine/Operands.lean ====
section
/-! DEFINITION. The number forms of the block: byte order (20_memory.md R42), signedness (00_scope.md R12),
the config word (41_config_codec.md R120 to R122), the bus-voltage word's count (42_reading_decode.md R131)
and the scale factors (43_scale_convert.md R140 to R142).
-/

namespace Sys2Proof.Machine

/-- `BE16(b0, b1) = b0 * 256 + b1` (20_memory.md R42). -/
def be16 (b0 b1 : Byte) : Word := BitVec.ofNat 16 (b0.toNat * 256 + b1.toNat)

/-- `HI(v) = v[15:8]` (20_memory.md R42). -/
def hiByte (v : Word) : Byte := v.extractLsb' 8 8

/-- `LO(v) = v[7:0]` (20_memory.md R42). -/
def loByte (v : Word) : Byte := v.extractLsb' 0 8

/-- The two's-complement rule of the source (00_scope.md R12, 42_reading_decode.md R130). -/
def s16 (raw : Word) : Int := if raw.toNat ≥ 32768 then (raw.toNat : Int) - 65536 else raw.toNat

/-- `tc_64(i)` (00_scope.md R12). -/
def tc64 (i : Int) : BitVec 64 := BitVec.ofInt 64 i

/-- `zext_64(v)` of a number (00_scope.md R12). -/
def zext64 (n : Nat) : BitVec 64 := BitVec.ofNat 64 n

/-- `zext_32(v)` of a number (00_scope.md R12). -/
def zext32 (n : Nat) : BitVec 32 := BitVec.ofNat 32 n

/-- The five config field codes (41_config_codec.md R120, R126). -/
structure CfgFields where
  brng : BitVec 1
  pg   : BitVec 2
  badc : BitVec 4
  sadc : BitVec 4
  mode : BitVec 3
  deriving DecidableEq, Repr

/-- `EncodeConfig` (41_config_codec.md R121). -/
def encodeConfig (c : CfgFields) : Word :=
  (c.brng.setWidth 16 <<< 13) ||| (c.pg.setWidth 16 <<< 11) ||| (c.badc.setWidth 16 <<< 7) |||
    (c.sadc.setWidth 16 <<< 3) ||| c.mode.setWidth 16

/-- `DecodeConfig` (41_config_codec.md R122). -/
def decodeConfig (w : Word) : CfgFields :=
  { brng := w.extractLsb' 13 1, pg := w.extractLsb' 11 2, badc := w.extractLsb' 7 4,
    sadc := w.extractLsb' 3 4, mode := w.extractLsb' 0 3 }

/-- The field codes in the FS layout, as DECCFG reports them (41_config_codec.md R122). -/
def fsOf (c : CfgFields) : BitVec 20 := packFs c.brng c.pg c.badc c.sadc c.mode

/-- Config bits 15:14 as found, which DECCFG reports (41_config_codec.md R122). -/
def undocumentedBits (w : Word) : BitVec 2 := w.extractLsb' 14 2

/-- `raw[15:3]`, the voltage count of a bus-voltage word (42_reading_decode.md R131). -/
def voltageCount (raw : Word) : BitVec 13 := raw.extractLsb' 3 13

/-- `ScaleCurrent`, microamperes, signed (43_scale_convert.md R140). -/
def scaleCurrent (raw : Word) (lsbUa : Nat) : Int := s16 raw * lsbUa

/-- `ScaleBusVoltage`, millivolts (43_scale_convert.md R141). -/
def scaleBusVoltage (count : BitVec 13) : Nat := count.toNat * Config.vbusLsbMv

/-- `ScalePower`, microwatts (43_scale_convert.md R142). -/
def scalePower (raw : Word) (lsbUw : Nat) : Nat := raw.toNat * lsbUw

end Sys2Proof.Machine
end

