-- ==== Sys2Proof/Machine/State.lean ====
section
/-! DEFINITION. The state of the block (10_state.md) as plain data, the responses (30_encoding.md R74),
what the host presents, and the state right after reset.
-/

namespace Sys2Proof.Machine

/-- The driver state `S.FSM`: five constructors, codes 5 to 7 unrepresentable (10_state.md R20). -/
inductive Fsm where
  | uninit
  | located
  | configured
  | ready
  | closed
  deriving DecidableEq, Repr

/-- The six failures of a command (60_exceptions.md R200), the non-zero values of `ST`. -/
inductive ErrStatus where
  | busIOError
  | deviceNotFoundError
  | driverClosedError
  | invalidCalibrationInputError
  | illegalCommandError
  | wrongStateError
  deriving DecidableEq, Repr

/-- A response, as a sum, so that a failure cannot be read as a value (30_encoding.md R74). -/
inductive Response where
  | ok (r0 : BitVec 64) (r1 r2 : BitVec 32)
  | err (status : ErrStatus) (einfo : BitVec 64)
  deriving DecidableEq, Repr

/-- What the host does at the block's port between two commands: it presents a command word
(20_memory.md R54) or asserts `rst` (70_reset_and_hazards.md R230; assumption log 6). -/
inductive HostInput where
  | command (w : CmdWord)
  | rst
  deriving DecidableEq, Repr

/-- The block's 84 bits of state, "There is no other state" (10_state.md §1). -/
structure Block where
  /-- `S.FSM` (R20) -/
  fsm   : Fsm
  /-- `S.ADDRV`: the bus address is resolved (R23) -/
  addrv : Bool
  /-- `S.ADDR`: the resolved bus address (R22) -/
  addr  : BusAddr
  /-- `S.CALV`: the shadow is valid (R26) -/
  calv  : Bool
  /-- `S.CAL`: the calibration register value (R25) -/
  cal   : BitVec 16
  /-- `S.ILSB`: the current LSB, uA per bit (R25) -/
  ilsb  : BitVec 16
  /-- `S.PLSB`: the power LSB, uW per bit (R25) -/
  plsb  : BitVec 24
  /-- `S.CFG`: the config word last written (R27) -/
  cfg   : BitVec 16
  deriving DecidableEq, Repr

/-- The machine: the block's state and the model's own fields (INVENTORY.md, State). -/
structure State where
  /-- The block's own state. -/
  blk  : Block
  /-- The response of the last command, none before the first (10_state.md R35; log 2). -/
  resp : Option Response
  /-- The transactions of the last command, in order, with their outcomes (10_state.md R38; log 5). -/
  txns : List Txn
  /-- The transactions of all commands before the last (log 5). -/
  past : List Txn
  /-- The environment's coming answers, in order, as far as they are fixed; past its end every answer is
  the free value `Config.envAnswer` (20_memory.md R52; log 3). -/
  env  : List Answer
  /-- What the host will present, in order (20_memory.md R54; log 1). -/
  port : List HostInput
  deriving DecidableEq, Repr

/-- No step faults: every failure of this block is a response (60_exceptions.md R206; log 12), so there is
no constructor. -/
inductive Fault where
  deriving DecidableEq, Repr

/-- Why a step has no meaning. -/
inductive Refusal where
  /-- An instruction whose meaning is not written yet; raised by `exec` alone. Safe: nothing is claimed of
  it. No arm of `exec` raises it now. -/
  | notModelled (mnemonic : String)
  deriving DecidableEq, Repr

/-- The block's state after reset: every element 0 (10_state.md R29, 70_reset_and_hazards.md R230). -/
def Block.reset : Block :=
  { fsm := .uninit, addrv := false, addr := 0#7, calv := false,
    cal := 0#16, ilsb := 0#16, plsb := 0#24, cfg := 0#16 }

/-- The machine right after reset. The model's own fields are empty (log 7, DESIGN CHOICE): no response
yet, no transaction yet, no answer fixed, nothing presented. -/
def State.reset : State :=
  { blk := Block.reset, resp := none, txns := [], past := [], env := [], port := [] }

end Sys2Proof.Machine
end

