-- ==== Sys2Proof/Machine/Flags.lean ====
section
/-! DEFINITION. The two status bits of the bus-voltage word (42_reading_decode.md R131), the numbers of
states, statuses and failure kinds (10_state.md R20, 60_exceptions.md R200, 20_memory.md R50), the error
information word (60_exceptions.md R203) and the response as the port carries it (30_encoding.md R74).
The block keeps no flag between commands (10_state.md R31).
-/

namespace Sys2Proof.Machine

/-- `raw[1]`, conversion-ready (42_reading_decode.md R131). -/
def conversionReady (raw : Word) : Bool := raw.getLsbD 1

/-- `raw[0]`, math-overflow (42_reading_decode.md R131). -/
def mathOverflow (raw : Word) : Bool := raw.getLsbD 0

/-- What `DecodeBusVoltage` returns (42_reading_decode.md R131). -/
structure BusVoltage where
  mv   : Nat
  cnvr : Bool
  ovf  : Bool
  deriving DecidableEq, Repr

/-- `DecodeBusVoltage` (42_reading_decode.md R131); bit 2 takes no part. -/
def decodeBusVoltage (raw : Word) : BusVoltage :=
  { mv := scaleBusVoltage (voltageCount raw), cnvr := conversionReady raw, ovf := mathOverflow raw }

/-- The codes of `S.FSM` (10_state.md R20). -/
def Fsm.code : Fsm → BitVec 3
  | .uninit => 0#3
  | .located => 1#3
  | .configured => 2#3
  | .ready => 3#3
  | .closed => 4#3

/-- The numbers of the failure kinds (20_memory.md R50). -/
def failKindCode : FailKind → BitVec 8
  | .noack => 1#8
  | .timeout => 2#8
  | .arblost => 3#8
  | .other => 4#8

/-- The numbers of the failures (60_exceptions.md R200). -/
def ErrStatus.code : ErrStatus → BitVec 8
  | .busIOError => 1#8
  | .deviceNotFoundError => 2#8
  | .driverClosedError => 3#8
  | .invalidCalibrationInputError => 4#8
  | .illegalCommandError => 5#8
  | .wrongStateError => 6#8

/-- Why `ComputeCal` refuses its inputs (43_scale_convert.md R150). -/
inductive CalFault where
  | zeroInput
  | quotientTooBig
  deriving DecidableEq, Repr

/-- The failures a command can raise, with what each knows (60_exceptions.md R201). -/
inductive Failure where
  | busIO (k : FailKind) (n : Nat)
  | deviceNotFound
  | driverClosed
  | invalidCalibration (why : CalFault)
  | illegalCommand (sub : IllegalSub)
  | wrongState (fsm : Fsm)
  deriving DecidableEq, Repr

/-- The status a failure is reported under (60_exceptions.md R200). -/
def Failure.status : Failure → ErrStatus
  | .busIO _ _ => .busIOError
  | .deviceNotFound => .deviceNotFoundError
  | .driverClosed => .driverClosedError
  | .invalidCalibration _ => .invalidCalibrationInputError
  | .illegalCommand _ => .illegalCommandError
  | .wrongState _ => .wrongStateError

/-- The information number of a refused calibration input (60_exceptions.md R203). -/
def CalFault.code : CalFault → BitVec 64
  | .zeroInput => 1#64
  | .quotientTooBig => 2#64

/-- `EINFO` (60_exceptions.md R203): of a bus failure, bits 7:0 the kind and bits 15:8 the index of the
failing transaction. -/
def Failure.einfo : Failure → BitVec 64
  | .busIO k n => ((BitVec.ofNat 8 n).setWidth 64 <<< 8) ||| (failKindCode k).setWidth 64
  | .deviceNotFound => 0#64
  | .driverClosed => 0#64
  | .invalidCalibration why => why.code
  | .illegalCommand sub => sub.code
  | .wrongState fsm => fsm.code.setWidth 64

/-- `ST[7:0]` on the port (30_encoding.md R74). -/
def Response.st : Response → BitVec 8
  | .ok _ _ _ => 0#8
  | .err status _ => status.code

/-- `R0[63:0]` on the port: the result, or `EINFO` (30_encoding.md R74). -/
def Response.r0 : Response → BitVec 64
  | .ok r0 _ _ => r0
  | .err _ einfo => einfo

/-- `R1[31:0]` on the port (30_encoding.md R74). -/
def Response.r1 : Response → BitVec 32
  | .ok _ r1 _ => r1
  | .err _ _ => 0#32

/-- `R2[31:0]` on the port (30_encoding.md R74). -/
def Response.r2 : Response → BitVec 32
  | .ok _ _ r2 => r2
  | .err _ _ => 0#32

/-- Whether the response is OK. -/
def Response.isOk : Response → Bool
  | .ok _ _ _ => true
  | .err _ _ => false

end Sys2Proof.Machine
end

