-- ==== Sys2Proof/Machine/Ops.lean ====
section
/-! DEFINITION. The shared operations: responses and failures (60_exceptions.md), the bus port
(20_memory.md R45 to R52), the address scan (40_bus_access.md R102), the calibration (43_scale_convert.md
R150), the shadow (10_state.md R25 to R27) and the prologue every command goes through (60_exceptions.md
R204).
-/

namespace Sys2Proof.Machine

/-! ### Responses and failures -/

/-- Give the response of the command (10_state.md R35). -/
def State.respond (s : State) (r : Response) : State := { s with resp := some r }

/-- `OK(R0, R1, R2)` (00_scope.md R13, 30_encoding.md R74). -/
def State.ok (s : State) (r0 : BitVec 64) (r1 r2 : BitVec 32) : State := s.respond (.ok r0 r1 r2)

/-- `raise E(info)` (00_scope.md R15): the block's one way of taking an exception. The failure is the
response of the command and nothing else: no state element, no handler, no saved context
(60_exceptions.md R206). There is no return from one (R207): the next command is whatever the host presents. -/
def State.raise (s : State) (f : Failure) : State := s.respond (.err f.status f.einfo)

/-- Take a command: what the last one issued joins the history, and this one has issued nothing and given
no response yet. -/
def State.beginCommand (s : State) : State :=
  { s with past := s.past ++ s.txns, txns := [], resp := none }

/-- Write the block's state. -/
def State.withBlk (s : State) (b : Block) : State := { s with blk := b }

/-! ### The bus port -/

/-- Every transaction so far, oldest first (10_state.md R38). -/
def State.history (s : State) : List Txn := s.past ++ s.txns

/-- What the environment answers to `q` after the transactions `ts` more (20_memory.md R52): the answer
fixed for that place, or else the free value, given the whole history. -/
def State.answerAfter (s : State) (ts : List Txn) (q : Request) : Answer :=
  match s.env.drop ts.length with
  | a :: _ => a
  | [] => Config.envAnswer (s.history ++ ts) q

/-- What the environment answers to the next transaction. -/
def State.answer (s : State) (q : Request) : Answer := s.answerAfter [] q

/-- A transaction has happened: it is recorded and its answer is used up. -/
def State.record (s : State) (t : Txn) : State := { s with txns := s.txns ++ [t], env := s.env.tail }

/-- Every non-acknowledging outcome of a quick write is folded into NOACK (20_memory.md R45). -/
def quickOutcome : Answer → QuickOutcome
  | .ok _ _ => .ack
  | .fail _ => .noack

/-- The outcome of a read (20_memory.md R46). -/
def readOutcome : Answer → ReadOutcome
  | .ok b0 b1 => .ok b0 b1
  | .fail k => .fail k

/-- The outcome of a write (20_memory.md R47). -/
def writeOutcome : Answer → WriteOutcome
  | .ok _ _ => .ok
  | .fail k => .fail k

/-- `BusQuick(a)` (20_memory.md R45). -/
def busQuick (a : BusAddr) (s : State) : QuickOutcome × State :=
  (quickOutcome (s.answer (.quick a)), s.record (.quick a (quickOutcome (s.answer (.quick a)))))

/-- `BusRead(a, r)` (20_memory.md R46). -/
def busRead (a : BusAddr) (r : RegNum) (s : State) : ReadOutcome × State :=
  (readOutcome (s.answer (.read a r)), s.record (.read a r (readOutcome (s.answer (.read a r)))))

/-- `BusWrite(a, r, b0, b1)` (20_memory.md R47). -/
def busWrite (a : BusAddr) (r : RegNum) (b0 b1 : Byte) (s : State) : WriteOutcome × State :=
  (writeOutcome (s.answer (.write a r b0 b1)), s.record (.write a r b0 b1 (writeOutcome (s.answer (.write a r b0 b1)))))

/-- `MemRead(r, 2)` and what the command does with the word (20_memory.md R48): one transaction, never
repeated; a failure ends the command with `BusIOError(k, n)`, n the transaction's index in the command. -/
def memRead (r : RegNum) (s : State) (next : Word → State → State) : State :=
  match busRead s.blk.addr r s with
  | (.ok b0 b1, s') => next (be16 b0 b1) s'
  | (.fail k, s') => s'.raise (.busIO k s.txns.length)

/-- `MemWrite(r, 2, v)` and what the command does after it (20_memory.md R49). -/
def memWrite (r : RegNum) (v : Word) (s : State) (next : State → State) : State :=
  match busWrite s.blk.addr r (hiByte v) (loByte v) s with
  | (.ok, s') => next s'
  | (.fail k, s') => s'.raise (.busIO k s.txns.length)

/-- The candidate addresses PROBE_LO, ..., PROBE_HI in ascending order (40_bus_access.md R102). -/
def probeRange : List BusAddr :=
  (List.range (Config.probeHi.toNat - Config.probeLo.toNat + 1)).map
    (fun k => BitVec.ofNat 7 (Config.probeLo.toNat + k))

/-- The scan of PROBE and LOCATEP (40_bus_access.md R102, 44_driver_sequencer.md R161): quick writes up to
the first that acknowledges. -/
def scan : List BusAddr → State → (BusAddr → State → State) → (State → State) → State
  | [], s, _, notFound => notFound s
  | a :: rest, s, found, notFound =>
    match busQuick a s with
    | (.ack, s') => found a s'
    | (.noack, s') => scan rest s' found notFound

/-! ### Calibration and shadow -/

/-- The source's CalibrationState (10_state.md R25). -/
structure CalState where
  cal  : BitVec 16
  ilsb : BitVec 16
  plsb : BitVec 24
  deriving DecidableEq, Repr

/-- `ComputeCal` for a given current LSB `lsb`, the value of `LSB_SELECT` (43_scale_convert.md R150). -/
def computeCalFor (lsb shunt imax : BitVec 16) : Except CalFault CalState :=
  if shunt = 0#16 ∨ imax = 0#16 then .error .zeroInput
  else
    if Config.calNum / (lsb.toNat * shunt.toNat) > 65535 then .error .quotientTooBig
    else .ok
      { cal := BitVec.ofNat 16 (Config.calNum / (lsb.toNat * shunt.toNat))
        ilsb := lsb
        plsb := BitVec.ofNat 24 (Config.plsbRatio * lsb.toNat) }

/-- `ComputeCal` on this hardware (43_scale_convert.md R150, 00_scope.md R10). -/
def computeCal (shunt imax : BitVec 16) (brng : BitVec 1) (pg : BitVec 2) (badc sadc : BitVec 4) :
    Except CalFault CalState :=
  computeCalFor (Config.lsbSelect shunt imax brng pg badc sadc) shunt imax

/-- The one atomic commit of the shadow (44_driver_sequencer.md R162; 10_state.md R25 to R27). -/
def Block.commitShadow (b : Block) (cs : CalState) (w : Word) : Block :=
  { b with cal := cs.cal, ilsb := cs.ilsb, plsb := cs.plsb, cfg := w, calv := true }

/-- `S.FSM <- f` (00_scope.md R13). -/
def Block.withFsm (b : Block) (f : Fsm) : Block := { b with fsm := f }

/-- `S.ADDR <- a; S.ADDRV <- 1; S.FSM <- LOCATED` (44_driver_sequencer.md R160, R161). -/
def Block.locate (b : Block) (a : BusAddr) : Block := { b with addr := a, addrv := true, fsm := .located }

/-- `Reconfigure` (44_driver_sequencer.md R162): calibration first, config second, the shadow only after both
writes succeeded; `after` is what the command does to the block's state beside the commit. -/
def reconfigure (shunt imax : BitVec 16) (c : CfgFields) (after : Block → Block) (s : State) : State :=
  match computeCal shunt imax c.brng c.pg c.badc c.sadc with
  | .error why => s.raise (.invalidCalibration why)
  | .ok cs =>
    memWrite 0x05#8 cs.cal s fun s =>
      memWrite 0x00#8 (encodeConfig c) s fun s =>
        (s.withBlk (after (s.blk.commitShadow cs (encodeConfig c)))).ok
          (zext64 (encodeConfig c).toNat) (zext32 cs.cal.toNat) 0#32

/-! ### The prologue -/

/-- The twelve commands that need the bus handle or the sequencer, which fail in CLOSED
(60_exceptions.md R201, DriverClosedError). -/
def needsHandle : Instr → Bool
  | .rdw _ => true
  | .wrw _ _ => true
  | .probe => true
  | .locatea _ => true
  | .locatep => true
  | .configure _ _ _ _ _ _ _ => true
  | .enable => true
  | .rdcur => true
  | .rdvbus => true
  | .rdpwr => true
  | .reconf _ _ _ _ _ _ _ => true
  | .close => true
  | .enccfg _ _ _ _ _ => false
  | .deccfg _ => false
  | .decs16 _ => false
  | .decbv _ => false
  | .cvti _ _ => false
  | .cvtv _ => false
  | .cvtp _ _ => false
  | .calcCal _ _ _ _ _ _ => false
  | .getst => false
  | .getcal => false

/-- The allowed states of a command (44_driver_sequencer.md R171, 60_exceptions.md R204 step 3); GETCAL is
gated by `S.CALV` alone (44_driver_sequencer.md R170; assumption log 10). -/
def allowed (b : Block) : Instr → Bool
  | .rdw _ => b.fsm == .located || b.fsm == .configured || b.fsm == .ready
  | .wrw _ _ => b.fsm == .located || b.fsm == .configured || b.fsm == .ready
  | .probe => b.fsm != .closed
  | .locatea _ => b.fsm == .uninit
  | .locatep => b.fsm == .uninit
  | .configure _ _ _ _ _ _ _ => b.fsm == .located
  | .enable => b.fsm == .configured
  | .rdcur => b.fsm == .ready
  | .rdvbus => b.fsm == .ready
  | .rdpwr => b.fsm == .ready
  | .reconf _ _ _ _ _ _ _ => b.fsm == .configured || b.fsm == .ready
  | .close => b.fsm != .closed
  | .enccfg _ _ _ _ _ => true
  | .deccfg _ => true
  | .decs16 _ => true
  | .decbv _ => true
  | .cvti _ _ => true
  | .cvtv _ => true
  | .cvtp _ _ => true
  | .calcCal _ _ _ _ _ _ => true
  | .getst => true
  | .getcal => b.calv

/-- The tests before the body, in order: illegal, closed, wrong state (60_exceptions.md R204). The first is
the decoder's for every word it gets; here it also answers an instruction no word decodes to (assumption
log 9). -/
def prologue (i : Instr) (body : State → State) (s : State) : State :=
  match operandFault i with
  | some sub => s.raise (.illegalCommand sub)
  | none =>
    if needsHandle i && s.blk.fsm == .closed then s.raise .driverClosed
    else if allowed s.blk i then body s
    else s.raise (.wrongState s.blk.fsm)

/-- Execute a command: every command gives a response (20_memory.md R60), so this always answers a next
state. -/
def runCommand (i : Instr) (body : State → State) (s : State) : Host.Outcome State Fault Refusal :=
  .next (prologue i body s.beginCommand)

/-! ### The host port -/

/-- A word that is no command: `ERR(IllegalCommandError, sub)`, no state change, no transaction
(30_encoding.md R90). -/
def refuseWord (sub : IllegalSub) (s : State) : State := s.beginCommand.raise (.illegalCommand sub)

/-- The host's input is taken from the port (20_memory.md R54). -/
def State.takeInput (s : State) : State := { s with port := s.port.tail }

/-- Reset (70_reset_and_hazards.md R230, R231): every element of the block's state at its reset value, no bus
transaction, the environment untouched. It gives no response (assumption log 6). -/
def State.resetBlock (s : State) : State := { s.beginCommand with blk := Block.reset }

end Sys2Proof.Machine
end

