-- ==== Sys2Proof/Machine/BusAccess.lean ====
section
/-! DEFINITION. Family 1: RDW, WRW, PROBE (40_bus_access.md).
-/

namespace Sys2Proof.Machine

/-- RDW `reg` (40_bus_access.md R100): the word as read, not interpreted. -/
def execRdw (reg : RegNum) (s : State) : Host.Outcome State Fault Refusal :=
  runCommand (.rdw reg) (fun s => memRead reg s fun v s => s.ok (zext64 v.toNat) 0#32 0#32) s

/-- WRW `reg`, `val` (40_bus_access.md R101): the shadow is not updated. -/
def execWrw (reg : RegNum) (val : Word) (s : State) : Host.Outcome State Fault Refusal :=
  runCommand (.wrw reg val) (fun s => memWrite reg val s fun s => s.ok 0#64 0#32 0#32) s

/-- PROBE (40_bus_access.md R102): the first address that acknowledges, or none. -/
def execProbe (s : State) : Host.Outcome State Fault Refusal :=
  runCommand .probe
    (fun s => scan probeRange s (fun a s => s.ok (zext64 a.toNat) 1#32 0#32) (fun s => s.ok 0#64 0#32 0#32)) s

end Sys2Proof.Machine
end

