-- ==== Sys2Proof/Machine/ConfigCodec.lean ====
section
/-! DEFINITION. Family 2: ENCCFG, DECCFG (41_config_codec.md).
-/

namespace Sys2Proof.Machine

/-- ENCCFG (41_config_codec.md R121). -/
def execEnccfg (brng : BitVec 1) (pg : BitVec 2) (badc sadc : BitVec 4) (mode : BitVec 3) (s : State) :
    Host.Outcome State Fault Refusal :=
  runCommand (.enccfg brng pg badc sadc mode)
    (fun s => s.ok (zext64 (encodeConfig ⟨brng, pg, badc, sadc, mode⟩).toNat) 0#32 0#32) s

/-- DECCFG (41_config_codec.md R122). -/
def execDeccfg (raw : Word) (s : State) : Host.Outcome State Fault Refusal :=
  runCommand (.deccfg raw)
    (fun s => s.ok (zext64 (fsOf (decodeConfig raw)).toNat) (zext32 (undocumentedBits raw).toNat) 0#32) s

end Sys2Proof.Machine
end

