-- ==== Sys2Proof/Machine/ReadingDecode.lean ====
section
/-! DEFINITION. Family 3: DECS16, DECBV (42_reading_decode.md).
-/

namespace Sys2Proof.Machine

/-- DECS16 (42_reading_decode.md R130). -/
def execDecs16 (raw : Word) (s : State) : Host.Outcome State Fault Refusal :=
  runCommand (.decs16 raw) (fun s => s.ok (tc64 (s16 raw)) 0#32 0#32) s

/-- The response DECBV and RDVBUS give for a bus-voltage word (42_reading_decode.md R131). -/
def State.okBusVoltage (s : State) (v : BusVoltage) : State :=
  s.ok (zext64 v.mv) (zext32 v.cnvr.toNat) (zext32 v.ovf.toNat)

/-- DECBV (42_reading_decode.md R131). -/
def execDecbv (raw : Word) (s : State) : Host.Outcome State Fault Refusal :=
  runCommand (.decbv raw) (fun s => s.okBusVoltage (decodeBusVoltage raw)) s

end Sys2Proof.Machine
end

