-- ==== Sys2Proof/Machine/ScaleConvert.lean ====
section
/-! DEFINITION. Family 4: CVTI, CVTV, CVTP, CALC (43_scale_convert.md).
-/

namespace Sys2Proof.Machine

/-- CVTI (43_scale_convert.md R140). -/
def execCvti (raw : Word) (scale : BitVec 24) (s : State) : Host.Outcome State Fault Refusal :=
  runCommand (.cvti raw scale) (fun s => s.ok (tc64 (scaleCurrent raw scale.toNat)) 0#32 0#32) s

/-- CVTV (43_scale_convert.md R141). -/
def execCvtv (count : BitVec 13) (s : State) : Host.Outcome State Fault Refusal :=
  runCommand (.cvtv count) (fun s => s.ok (zext64 (scaleBusVoltage count)) 0#32 0#32) s

/-- CVTP (43_scale_convert.md R142). -/
def execCvtp (raw : Word) (scale : BitVec 24) (s : State) : Host.Outcome State Fault Refusal :=
  runCommand (.cvtp raw scale) (fun s => s.ok (zext64 (scalePower raw scale.toNat)) 0#32 0#32) s

/-- CALC (43_scale_convert.md R151): computed, not stored. -/
def execCalc (shunt imax : BitVec 16) (brng : BitVec 1) (pg : BitVec 2) (badc sadc : BitVec 4) (s : State) :
    Host.Outcome State Fault Refusal :=
  runCommand (.calcCal shunt imax brng pg badc sadc)
    (fun s =>
      match computeCal shunt imax brng pg badc sadc with
      | .error why => s.raise (.invalidCalibration why)
      | .ok cs => s.ok (zext64 cs.cal.toNat) (zext32 cs.ilsb.toNat) (zext32 cs.plsb.toNat)) s

end Sys2Proof.Machine
end

