-- ==== Sys2Proof/Machine/Sequencer.lean ====
section
/-! DEFINITION. Family 5: the driver sequencer (44_driver_sequencer.md).
-/

namespace Sys2Proof.Machine

/-- LOCATEA (44_driver_sequencer.md R160): no existence check. -/
def execLocatea (addr : BusAddr) (s : State) : Host.Outcome State Fault Refusal :=
  runCommand (.locatea addr) (fun s => (s.withBlk (s.blk.locate addr)).ok (zext64 addr.toNat) 0#32 0#32) s

/-- LOCATEP (44_driver_sequencer.md R161): the scan of PROBE; finding nothing is a failure. -/
def execLocatep (s : State) : Host.Outcome State Fault Refusal :=
  runCommand .locatep
    (fun s =>
      scan probeRange s
        (fun a s => (s.withBlk (s.blk.locate a)).ok (zext64 a.toNat) 1#32 0#32)
        (fun s => s.raise .deviceNotFound)) s

/-- CONFIGURE (44_driver_sequencer.md R162). -/
def execConfigure (shunt imax : BitVec 16) (brng : BitVec 1) (pg : BitVec 2) (badc sadc : BitVec 4)
    (mode : BitVec 3) (s : State) : Host.Outcome State Fault Refusal :=
  runCommand (.configure shunt imax brng pg badc sadc mode)
    (reconfigure shunt imax ⟨brng, pg, badc, sadc, mode⟩ (fun b => b.withFsm .configured)) s

/-- ENABLE (44_driver_sequencer.md R163). -/
def execEnable (s : State) : Host.Outcome State Fault Refusal :=
  runCommand .enable (fun s => (s.withBlk (s.blk.withFsm .ready)).ok 0#64 0#32 0#32) s

/-- RDCUR (44_driver_sequencer.md R164): the Current register by the shadow's scale. -/
def execRdcur (s : State) : Host.Outcome State Fault Refusal :=
  runCommand .rdcur
    (fun s => memRead 0x04#8 s fun v s => s.ok (tc64 (scaleCurrent v s.blk.ilsb.toNat)) 0#32 0#32) s

/-- RDVBUS (44_driver_sequencer.md R165): one more read, exactly when the first word is not ready. -/
def execRdvbus (s : State) : Host.Outcome State Fault Refusal :=
  runCommand .rdvbus
    (fun s =>
      memRead 0x02#8 s fun v s =>
        if conversionReady v then s.okBusVoltage (decodeBusVoltage v)
        else memRead 0x02#8 s fun v s => s.okBusVoltage (decodeBusVoltage v)) s

/-- RDPWR (44_driver_sequencer.md R166): the Power register, unsigned, by the shadow's scale. -/
def execRdpwr (s : State) : Host.Outcome State Fault Refusal :=
  runCommand .rdpwr
    (fun s => memRead 0x03#8 s fun v s => s.ok (zext64 (scalePower v s.blk.plsb.toNat)) 0#32 0#32) s

/-- RECONF (44_driver_sequencer.md R167): `S.FSM` unchanged. -/
def execReconf (shunt imax : BitVec 16) (brng : BitVec 1) (pg : BitVec 2) (badc sadc : BitVec 4)
    (mode : BitVec 3) (s : State) : Host.Outcome State Fault Refusal :=
  runCommand (.reconf shunt imax brng pg badc sadc mode)
    (reconfigure shunt imax ⟨brng, pg, badc, sadc, mode⟩ (fun b => b)) s

/-- CLOSE (44_driver_sequencer.md R168): only `S.FSM` changes. -/
def execClose (s : State) : Host.Outcome State Fault Refusal :=
  runCommand .close (fun s => (s.withBlk (s.blk.withFsm .closed)).ok 0#64 0#32 0#32) s

/-- GETST (44_driver_sequencer.md R169). -/
def execGetst (s : State) : Host.Outcome State Fault Refusal :=
  runCommand .getst
    (fun s =>
      s.ok (s.blk.fsm.code.setWidth 64)
        ((BitVec.ofBool s.blk.addrv ++ s.blk.addr).setWidth 32)
        ((BitVec.ofBool s.blk.calv ++ s.blk.cfg).setWidth 32)) s

/-- GETCAL (44_driver_sequencer.md R170); the test of `S.CALV` is in the prologue (60_exceptions.md R204). -/
def execGetcal (s : State) : Host.Outcome State Fault Refusal :=
  runCommand .getcal
    (fun s => s.ok (zext64 s.blk.cal.toNat) (zext32 s.blk.ilsb.toNat) (zext32 s.blk.plsb.toNat)) s

end Sys2Proof.Machine
end

