-- ==== Sys2Proof/Machine/Dispatch.lean ====
section
/-! DEFINITION. One arm per command (spec/opcode_table.json), each one call of that command's meaning.
-/

namespace Sys2Proof.Machine

def exec (i : Instr) (s : State) : Host.Outcome State Fault Refusal :=
  match i with
  | .rdw reg => Sys2Proof.Machine.execRdw reg s
  | .wrw reg val => Sys2Proof.Machine.execWrw reg val s
  | .probe => Sys2Proof.Machine.execProbe s
  | .enccfg brng pg badc sadc mode => Sys2Proof.Machine.execEnccfg brng pg badc sadc mode s
  | .deccfg raw => Sys2Proof.Machine.execDeccfg raw s
  | .decs16 raw => Sys2Proof.Machine.execDecs16 raw s
  | .decbv raw => Sys2Proof.Machine.execDecbv raw s
  | .cvti raw scale => Sys2Proof.Machine.execCvti raw scale s
  | .cvtv count => Sys2Proof.Machine.execCvtv count s
  | .cvtp raw scale => Sys2Proof.Machine.execCvtp raw scale s
  | .calcCal shunt imax brng pg badc sadc => Sys2Proof.Machine.execCalc shunt imax brng pg badc sadc s
  | .locatea addr => Sys2Proof.Machine.execLocatea addr s
  | .locatep => Sys2Proof.Machine.execLocatep s
  | .configure shunt imax brng pg badc sadc mode => Sys2Proof.Machine.execConfigure shunt imax brng pg badc sadc mode s
  | .enable => Sys2Proof.Machine.execEnable s
  | .rdcur => Sys2Proof.Machine.execRdcur s
  | .rdvbus => Sys2Proof.Machine.execRdvbus s
  | .rdpwr => Sys2Proof.Machine.execRdpwr s
  | .reconf shunt imax brng pg badc sadc mode => Sys2Proof.Machine.execReconf shunt imax brng pg badc sadc mode s
  | .close => Sys2Proof.Machine.execClose s
  | .getst => Sys2Proof.Machine.execGetst s
  | .getcal => Sys2Proof.Machine.execGetcal s

end Sys2Proof.Machine
end

