-- ==== Sys2Proof/Machine/Step.lean ====
section
/-! DEFINITION. One step: the block takes the host's next input and, if it is a command, executes it to
completion (20_memory.md R54).
-/

namespace Sys2Proof.Machine

/-- One step. With nothing presented the block is idle and nothing changes (60_exceptions.md R214; assumption
log 11). -/
def step (s : State) : Host.Outcome State Fault Refusal :=
  match s.port with
  | [] => .next s
  | .rst :: _ => .next s.takeInput.resetBlock
  | .command w :: _ =>
    match decode w with
    | .ok i => exec i s.takeInput
    | .error sub => .next (refuseWord sub s.takeInput)

/-- The host presents the word next, before anything else it will present (assumption log 8). -/
def State.withFetchWord (s : State) (nbits w : Nat) : State :=
  { s with port := .command (BitVec.ofNat 64 (w % 2 ^ nbits)) :: s.port }

end Sys2Proof.Machine
end

