-- ==== Sys2Proof/Machine/Assembler.lean ====
section
/-! DEFINITION. The assembler notation (30_encoding.md R93), at the level of a mnemonic and its operand
numbers (assumption log 18): which operands a command takes, in which order, and how a line is written.
-/

namespace Sys2Proof

/-- An operand of a `w`-bit field: a number the field can hold. -/
def operandField (w n : Nat) : Option (BitVec w) := if n < 2 ^ w then some (BitVec.ofNat w n) else none

/-- The operands of a command as numbers, in the order of 30_encoding.md R93. -/
def Instr.operands : Instr → List Nat
  | .rdw reg => [reg.toNat]
  | .wrw reg val => [reg.toNat, val.toNat]
  | .probe => []
  | .enccfg brng pg badc sadc mode => [brng.toNat, pg.toNat, badc.toNat, sadc.toNat, mode.toNat]
  | .deccfg raw => [raw.toNat]
  | .decs16 raw => [raw.toNat]
  | .decbv raw => [raw.toNat]
  | .cvti raw scale => [raw.toNat, scale.toNat]
  | .cvtv count => [count.toNat]
  | .cvtp raw scale => [raw.toNat, scale.toNat]
  | .calcCal shunt imax brng pg badc sadc =>
    [shunt.toNat, imax.toNat, brng.toNat, pg.toNat, badc.toNat, sadc.toNat]
  | .locatea addr => [addr.toNat]
  | .locatep => []
  | .configure shunt imax brng pg badc sadc mode =>
    [shunt.toNat, imax.toNat, brng.toNat, pg.toNat, badc.toNat, sadc.toNat, mode.toNat]
  | .enable => []
  | .rdcur => []
  | .rdvbus => []
  | .rdpwr => []
  | .reconf shunt imax brng pg badc sadc mode =>
    [shunt.toNat, imax.toNat, brng.toNat, pg.toNat, badc.toNat, sadc.toNat, mode.toNat]
  | .close => []
  | .getst => []
  | .getcal => []

/-- The instruction a mnemonic and its operand numbers stand for (30_encoding.md R93), if every operand fits
its field. -/
def assemble (m : Mnemonic) (ops : List Nat) : Option Instr :=
  match m, ops with
  | .rdw, [reg] => do return .rdw (← operandField 8 reg)
  | .wrw, [reg, val] => do return .wrw (← operandField 8 reg) (← operandField 16 val)
  | .probe, [] => some .probe
  | .enccfg, [brng, pg, badc, sadc, mode] => do
    return .enccfg (← operandField 1 brng) (← operandField 2 pg) (← operandField 4 badc) (← operandField 4 sadc)
      (← operandField 3 mode)
  | .deccfg, [raw] => do return .deccfg (← operandField 16 raw)
  | .decs16, [raw] => do return .decs16 (← operandField 16 raw)
  | .decbv, [raw] => do return .decbv (← operandField 16 raw)
  | .cvti, [raw, scale] => do return .cvti (← operandField 16 raw) (← operandField 24 scale)
  | .cvtv, [count] => do return .cvtv (← operandField 13 count)
  | .cvtp, [raw, scale] => do return .cvtp (← operandField 16 raw) (← operandField 24 scale)
  | .calcCal, [shunt, imax, brng, pg, badc, sadc] => do
    return .calcCal (← operandField 16 shunt) (← operandField 16 imax) (← operandField 1 brng) (← operandField 2 pg)
      (← operandField 4 badc) (← operandField 4 sadc)
  | .locatea, [addr] => do return .locatea (← operandField 7 addr)
  | .locatep, [] => some .locatep
  | .configure, [shunt, imax, brng, pg, badc, sadc, mode] => do
    return .configure (← operandField 16 shunt) (← operandField 16 imax) (← operandField 1 brng)
      (← operandField 2 pg) (← operandField 4 badc) (← operandField 4 sadc) (← operandField 3 mode)
  | .enable, [] => some .enable
  | .rdcur, [] => some .rdcur
  | .rdvbus, [] => some .rdvbus
  | .rdpwr, [] => some .rdpwr
  | .reconf, [shunt, imax, brng, pg, badc, sadc, mode] => do
    return .reconf (← operandField 16 shunt) (← operandField 16 imax) (← operandField 1 brng)
      (← operandField 2 pg) (← operandField 4 badc) (← operandField 4 sadc) (← operandField 3 mode)
  | .close, [] => some .close
  | .getst, [] => some .getst
  | .getcal, [] => some .getcal
  | _, _ => none

/-- The mnemonic in capitals (30_encoding.md R75, R93). -/
def Mnemonic.text : Mnemonic → String
  | .rdw => "RDW"
  | .wrw => "WRW"
  | .probe => "PROBE"
  | .enccfg => "ENCCFG"
  | .deccfg => "DECCFG"
  | .decs16 => "DECS16"
  | .decbv => "DECBV"
  | .cvti => "CVTI"
  | .cvtv => "CVTV"
  | .cvtp => "CVTP"
  | .calcCal => "CALC"
  | .locatea => "LOCATEA"
  | .locatep => "LOCATEP"
  | .configure => "CONFIGURE"
  | .enable => "ENABLE"
  | .rdcur => "RDCUR"
  | .rdvbus => "RDVBUS"
  | .rdpwr => "RDPWR"
  | .reconf => "RECONF"
  | .close => "CLOSE"
  | .getst => "GETST"
  | .getcal => "GETCAL"

/-- The names a register may be written by (30_encoding.md R93). -/
def RegName.text : RegName → String
  | .config => "CONFIG"
  | .shuntv => "SHUNTV"
  | .busv => "BUSV"
  | .power => "POWER"
  | .current => "CURRENT"
  | .calib => "CALIB"

/-- A line of the notation: the mnemonic, then the operands in decimal separated by commas (30_encoding.md
R93). -/
def Instr.asmLine (i : Instr) : String :=
  match i.operands with
  | [] => i.mnemonic.text
  | ops => i.mnemonic.text ++ " " ++ String.intercalate ", " (ops.map toString)

end Sys2Proof
end

