-- ==== Sys2Proof/Machine/FieldCodes.lean ====
section
/-! DEFINITION. The names of the config field codes (41_config_codec.md R124) and the predicate `CfgNamed`
(R125). PRESUMED (assumption log 15): the spec marks the code table as general knowledge (93 G1). No command
depends on it: the encoder and the extractor move codes, not names.
-/

namespace Sys2Proof.Machine

/-- bus-voltage-range -/
inductive BusRange where
  | v16 | v32
  deriving DecidableEq, Repr

/-- gain -/
inductive Gain where
  | div1mv40 | div2mv80 | div4mv160 | div8mv320
  deriving DecidableEq, Repr

/-- ADC resolution: single samples of 9 to 12 bits, or averages of 12-bit samples -/
inductive AdcResolution where
  | bits9 | bits10 | bits11 | bits12
  | avg2 | avg4 | avg8 | avg16 | avg32 | avg64 | avg128
  deriving DecidableEq, Repr

/-- operating mode -/
inductive OperatingMode where
  | powerDown | shuntTriggered | busTriggered | bothTriggered
  | adcOff | shuntContinuous | busContinuous | bothContinuous
  deriving DecidableEq, Repr

/-- The `brng` rows of 41_config_codec.md R124. -/
def busRangeName (c : BitVec 1) : BusRange := if c = 0#1 then .v16 else .v32

/-- The `pg` rows of 41_config_codec.md R124. -/
def gainName (c : BitVec 2) : Gain :=
  if c = 0#2 then .div1mv40 else if c = 1#2 then .div2mv80 else if c = 2#2 then .div4mv160 else .div8mv320

/-- The `badc`, `sadc` rows of 41_config_codec.md R124; codes 4 to 8 carry no name. -/
def adcName (c : BitVec 4) : Option AdcResolution :=
  match c.toNat with
  | 0 => some .bits9
  | 1 => some .bits10
  | 2 => some .bits11
  | 3 => some .bits12
  | 9 => some .avg2
  | 10 => some .avg4
  | 11 => some .avg8
  | 12 => some .avg16
  | 13 => some .avg32
  | 14 => some .avg64
  | 15 => some .avg128
  | _ => none

/-- The `mode` rows of 41_config_codec.md R124 (90 C5: eight values). -/
def modeName (c : BitVec 3) : OperatingMode :=
  match c.toNat with
  | 0 => .powerDown
  | 1 => .shuntTriggered
  | 2 => .busTriggered
  | 3 => .bothTriggered
  | 4 => .adcOff
  | 5 => .shuntContinuous
  | 6 => .busContinuous
  | _ => .bothContinuous

/-- `CfgNamed` (41_config_codec.md R125): a predicate of the spec, not a check the block makes. -/
def cfgNamed (c : CfgFields) : Bool := (adcName c.badc).isSome && (adcName c.sadc).isSome

end Sys2Proof.Machine
end

