-- ==== Sys2Proof/Machine/Pseudo.lean ====
section
/-! DEFINITION. The pseudo-commands (30_encoding.md R94): what the HOST does with them. The block never sees
one; each is a procedure over the block's commands and their responses (assumption log 17).
-/

namespace Sys2Proof.Machine

/-- Issue commands in order and stop at the first response whose status is not OK (30_encoding.md R94). -/
def issueUntilFailure : List Instr → State → Host.Outcome State Fault Refusal
  | [], s => .next s
  | i :: rest, s =>
    match exec i s with
    | .next t =>
      match t.resp with
      | some (.ok _ _ _) => issueUntilFailure rest t
      | _ => .next t
    | .fault r => .fault r
    | .refused r => .refused r

/-- `INIT.A` (30_encoding.md R94): `initialize()` with an explicit address. -/
def initA (addr : BusAddr) (shunt imax : BitVec 16) (brng : BitVec 1) (pg : BitVec 2) (badc sadc : BitVec 4)
    (mode : BitVec 3) : State → Host.Outcome State Fault Refusal :=
  issueUntilFailure [.locatea addr, .configure shunt imax brng pg badc sadc mode, .enable]

/-- `INIT.P` (30_encoding.md R94): `initialize()` with no address. -/
def initP (shunt imax : BitVec 16) (brng : BitVec 1) (pg : BitVec 2) (badc sadc : BitVec 4) (mode : BitVec 3) :
    State → Host.Outcome State Fault Refusal :=
  issueUntilFailure [.locatep, .configure shunt imax brng pg badc sadc mode, .enable]

/-- Issue `first` and then, if it answered OK, the command `andThen` makes of the word in `R0[15:0]`. -/
def issueThen (first : Instr) (andThen : Word → Instr) (s : State) : Host.Outcome State Fault Refusal :=
  match exec first s with
  | .next t =>
    match t.resp with
    | some (.ok r0 _ _) => exec (andThen (r0.extractLsb' 0 16)) t
    | _ => .next t
  | .fault r => .fault r
  | .refused r => .refused r

/-- `RDSHUNT` (30_encoding.md R94): RDW SHUNTV, then DECS16 on the word. -/
def rdshunt : State → Host.Outcome State Fault Refusal := issueThen (.rdw RegName.shuntv.number) .decs16

/-- `RDCFG` (30_encoding.md R94): RDW CONFIG, then DECCFG on the word. -/
def rdcfg : State → Host.Outcome State Fault Refusal := issueThen (.rdw RegName.config.number) .deccfg

end Sys2Proof.Machine
end

