-- ==== Sys2Proof/Safety.lean ====
section
/-! DEFINITION. The terms claims are made in: the state a command leaves, the invariant of the block's state
(10_state.md R22 to R27), which transactions the block may put on the bus (20_memory.md R41, 40_bus_access.md
R103), and the readings as the source's real numbers (00_scope.md R16).
-/

namespace Sys2Proof.Machine

/-- The state after a command that issued exactly the transactions `ts`, answered `r`, and wrote no state
element: the earlier transactions joined the past, one answer was used up per transaction, nothing else
changed. The response, the record and the answers are the model's own fields (log 2, 3, 5). -/
def State.afterCommand (s : State) (ts : List Txn) (r : Response) : State :=
  { s with resp := some r, txns := ts, past := s.past ++ s.txns, env := s.env.drop ts.length }

/-- The command fails before it touches the bus: no transaction, no state element written, this response
(60_exceptions.md R206). -/
abbrev RefusedWith (i : Instr) (s : State) (status : ErrStatus) (einfo : BitVec 64) : Prop :=
  exec i s = .next (s.afterCommand [] (.err status einfo))

/-- `n` quick writes from 0x03 upward, none acknowledged. -/
def silentScan (n : Nat) : List Txn := (List.range n).map (fun k => .quick (BitVec.ofNat 7 (3 + k)) .noack)

/-- The environment acknowledges none of the first `n` candidate addresses of a scan begun in `s`. -/
abbrev SilentBelow (s : State) (n : Nat) : Prop :=
  ∀ k < n, quickOutcome (s.answerAfter (silentScan k) (.quick (BitVec.ofNat 7 (3 + k)))) = .noack

/-- The environment acknowledges candidate number `n` of a scan begun in `s`, after `n` silent ones. -/
abbrev AcksAt (s : State) (n : Nat) : Prop :=
  quickOutcome (s.answerAfter (silentScan n) (.quick (BitVec.ofNat 7 (3 + n)))) = .ack

/-- What every run keeps of the block's state (10_state.md R22, R23, R25, R26, R27, R29). -/
structure Block.Inv (b : Block) : Prop where
  uninit_unresolved : b.fsm = .uninit → b.addrv = false
  driving_resolved : b.fsm = .located ∨ b.fsm = .configured ∨ b.fsm = .ready → b.addrv = true
  unresolved_zero : b.addrv = false → b.addr = 0#7
  resolved_in_range : b.addrv = true → 0x03 ≤ b.addr.toNat ∧ b.addr.toNat ≤ 0x76
  early_uncalibrated : b.fsm = .uninit ∨ b.fsm = .located → b.calv = false
  driving_calibrated : b.fsm = .configured ∨ b.fsm = .ready → b.calv = true
  calibrated_resolved : b.calv = true → b.addrv = true
  uncalibrated_zero : b.calv = false → b.cal = 0#16 ∧ b.ilsb = 0#16 ∧ b.plsb = 0#24 ∧ b.cfg = 0#16
  calibrated_lsbs : b.calv = true → b.ilsb = 100#16 ∧ b.plsb = 2000#24
  calibrated_cal : b.calv = true →
    ∃ shunt : BitVec 16, shunt ≠ 0#16 ∧ b.cal.toNat = 40960000 / (b.ilsb.toNat * shunt.toNat)
  calibrated_cfg : b.calv = true → b.cfg.toNat < 0x4000

/-- A bus address the block may use (20_memory.md R41). -/
abbrev InBusRange (a : BusAddr) : Prop := 0x03 ≤ a.toNat ∧ a.toNat ≤ 0x76

/-- A transaction the block whose resolved address is `a` may issue: a quick write in the probe range, a read
of one of the six registers at `a`, a write to Config or Calibration at `a` (20_memory.md R40, R41). -/
def LegalTxn (a : BusAddr) : Txn → Prop
  | .quick b _ => InBusRange b
  | .read b r _ => InBusRange b ∧ b = a ∧ r.toNat ≤ 5
  | .write b r _ _ _ => InBusRange b ∧ b = a ∧ (r.toNat = 0 ∨ r.toNat = 5)

/-- How a register transaction failed, if it did (20_memory.md R50). A quick write has no failure (R45). -/
def txnFailure : Txn → Option FailKind
  | .quick _ _ => none
  | .read _ _ (.ok _ _) => none
  | .read _ _ (.fail k) => some k
  | .write _ _ _ _ .ok => none
  | .write _ _ _ _ (.fail k) => some k

/-- The current in mA that `R0` stands for (00_scope.md R16). -/
def currentMilliamps (r0 : BitVec 64) : Rat := (r0.toInt : Rat) / 1000

/-- The bus voltage in V that `R0` stands for (00_scope.md R16). -/
def busVolts (r0 : BitVec 64) : Rat := (r0.toNat : Rat) / 1000

/-- The power in W that `R0` stands for (00_scope.md R16). -/
def powerWatts (r0 : BitVec 64) : Rat := (r0.toNat : Rat) / 1000000

end Sys2Proof.Machine
end

