-- ==== Sys2Proof/Certificates/Slice0/Obligations.lean ====
section
/-! DEFINITION. The statements for the provers, and the few terms they share. The terms write the spec's
numbers out again, in the spec's own arithmetic, so that a statement does not merely repeat a definition of
the machine.
-/

namespace Sys2Proof.Claims

open Sys2Proof.Machine

/-- The command word of `i` agrees with its row of spec/opcode_table.json, and a word with that opcode that
breaks the row's fixed bits is illegal with sub-code 2 (30_encoding.md R76, R90). -/
def HasPattern (i : Instr) (mask mtch : CmdWord) : Prop :=
  encode i &&& mask = mtch ∧
    ∀ w : CmdWord, w.extractLsb' 56 8 = mtch.extractLsb' 56 8 → w &&& mask ≠ mtch → decode w = .error .mustBeZero

/-- LOCATED, CONFIGURED or READY. -/
abbrev Driving (b : Block) : Prop := b.fsm = .located ∨ b.fsm = .configured ∨ b.fsm = .ready

/-- The numbers of 10_state.md R20. -/
def fsmNumber : Fsm → Nat
  | .uninit => 0
  | .located => 1
  | .configured => 2
  | .ready => 3
  | .closed => 4

/-- The numbers of 20_memory.md R50. -/
def kindNumber : FailKind → Nat
  | .noack => 1
  | .timeout => 2
  | .arblost => 3
  | .other => 4

/-- `EINFO` of `BusIOError(k, n)`: the kind in bits 7:0, the index in bits 15:8 (60_exceptions.md R203). -/
def busInfo (k : FailKind) (n : Nat) : BitVec 64 := BitVec.ofNat 64 (n * 256 + kindNumber k)

/-- "if raw >= 32768, signed = raw - 65536, else signed = raw" (00_scope.md R12). -/
def signed (raw : Word) : Int := if raw.toNat ≥ 32768 then (raw.toNat : Int) - 65536 else raw.toNat

/-- The config word as the sum of its fields at their offsets (41_config_codec.md R120). -/
def cfgNumber (brng : BitVec 1) (pg : BitVec 2) (badc sadc : BitVec 4) (mode : BitVec 3) : Nat :=
  brng.toNat * 8192 + pg.toNat * 2048 + badc.toNat * 128 + sadc.toNat * 8 + mode.toNat

/-- The calibration quotient on this hardware, where the current LSB is 100 uA (43_scale_convert.md R150). -/
def quotient (shunt : BitVec 16) : Nat := 40960000 / (100 * shunt.toNat)

/-- A write of the 16-bit number `n` to register `r`, big-endian (20_memory.md R42). -/
def writeRequest (a : BusAddr) (r : RegNum) (n : Nat) : Request :=
  .write a r (BitVec.ofNat 8 (n / 256)) (BitVec.ofNat 8 (n % 256))

/-- The same write with its outcome. -/
def writeTxn (a : BusAddr) (r : RegNum) (n : Nat) (o : WriteOutcome) : Txn :=
  .write a r (BitVec.ofNat 8 (n / 256)) (BitVec.ofNat 8 (n % 256)) o

/-- What CONFIGURE and RECONF do once the prologue lets them run (44_driver_sequencer.md R162): refuse a bad
calibration input before any transaction; write Calibration, then Config; surface the first failure and
commit nothing; commit the shadow after both, leaving the driver in state `f`. -/
def Reconfigures (i : Instr) (s : State) (shunt imax : BitVec 16) (n : Nat) (f : Fsm) : Prop :=
  (shunt = 0#16 ∨ imax = 0#16 → RefusedWith i s .invalidCalibrationInputError 1#64) ∧
  (shunt ≠ 0#16 → imax ≠ 0#16 → 65535 < quotient shunt → RefusedWith i s .invalidCalibrationInputError 2#64) ∧
  (shunt ≠ 0#16 → imax ≠ 0#16 → quotient shunt ≤ 65535 →
    (∀ k, s.answer (writeRequest s.blk.addr 5#8 (quotient shunt)) = .fail k →
      exec i s = .next (s.afterCommand [writeTxn s.blk.addr 5#8 (quotient shunt) (.fail k)]
        (.err .busIOError (busInfo k 0)))) ∧
    (∀ b0 b1 k, s.answer (writeRequest s.blk.addr 5#8 (quotient shunt)) = .ok b0 b1 →
      s.answerAfter [writeTxn s.blk.addr 5#8 (quotient shunt) .ok] (writeRequest s.blk.addr 0#8 n) = .fail k →
      exec i s = .next (s.afterCommand
        [writeTxn s.blk.addr 5#8 (quotient shunt) .ok, writeTxn s.blk.addr 0#8 n (.fail k)]
        (.err .busIOError (busInfo k 1)))) ∧
    (∀ b0 b1 c0 c1, s.answer (writeRequest s.blk.addr 5#8 (quotient shunt)) = .ok b0 b1 →
      s.answerAfter [writeTxn s.blk.addr 5#8 (quotient shunt) .ok] (writeRequest s.blk.addr 0#8 n) = .ok c0 c1 →
      exec i s = .next
        { s.afterCommand [writeTxn s.blk.addr 5#8 (quotient shunt) .ok, writeTxn s.blk.addr 0#8 n .ok]
            (.ok (BitVec.ofNat 64 n) (BitVec.ofNat 32 (quotient shunt)) 0#32) with
          blk := { s.blk with
            fsm := f, calv := true, cal := BitVec.ofNat 16 (quotient shunt), ilsb := 100#16, plsb := 2000#24,
            cfg := BitVec.ofNat 16 n } }))

/-- spec/opcode_table.json: mask and match of each row, in its order (30_encoding.md R76). -/
def opcodeTable : List (Mnemonic × CmdWord × CmdWord) :=
  [ (.rdw, 0xFFFFFF00FFFFFFFF#64, 0x1000000000000000#64),
    (.wrw, 0xFFFFFF00FFFF0000#64, 0x1100000000000000#64),
    (.probe, 0xFFFFFFFFFFFFFFFF#64, 0x1200000000000000#64),
    (.enccfg, 0xFFFFFFFFFFFEC008#64, 0x2000000000000000#64),
    (.deccfg, 0xFFFFFFFFFFFF0000#64, 0x2100000000000000#64),
    (.decs16, 0xFFFFFFFFFFFF0000#64, 0x3000000000000000#64),
    (.decbv, 0xFFFFFFFFFFFF0000#64, 0x3100000000000000#64),
    (.cvti, 0xFF000000FFFF0000#64, 0x4000000000000000#64),
    (.cvtv, 0xFFFFFFFFFFFFE000#64, 0x4100000000000000#64),
    (.cvtp, 0xFF000000FFFF0000#64, 0x4200000000000000#64),
    (.calcCal, 0xFFFEC00F00000000#64, 0x4300000000000000#64) ] ++
  [ (.locatea, 0xFFFFFF80FFFFFFFF#64, 0x5000000000000000#64),
    (.locatep, 0xFFFFFFFFFFFFFFFF#64, 0x5100000000000000#64),
    (.configure, 0xFFFEC00800000000#64, 0x5200000000000000#64),
    (.enable, 0xFFFFFFFFFFFFFFFF#64, 0x5300000000000000#64),
    (.rdcur, 0xFFFFFFFFFFFFFFFF#64, 0x5400000000000000#64),
    (.rdvbus, 0xFFFFFFFFFFFFFFFF#64, 0x5500000000000000#64),
    (.rdpwr, 0xFFFFFFFFFFFFFFFF#64, 0x5600000000000000#64),
    (.reconf, 0xFFFEC00800000000#64, 0x5700000000000000#64),
    (.close, 0xFFFFFFFFFFFFFFFF#64, 0x5800000000000000#64),
    (.getst, 0xFFFFFFFFFFFFFFFF#64, 0x5900000000000000#64),
    (.getcal, 0xFFFFFFFFFFFFFFFF#64, 0x5A00000000000000#64) ]

/-- The operand values that make a word illegal although it matches a row (30_encoding.md R90 cases 3 to 5):
`reg` is CMD[39:32] of RDW and WRW, `addr` is CMD[38:32] of LOCATEA. -/
def operandSub (m : Mnemonic) (w : CmdWord) : Option IllegalSub :=
  if (m = .rdw ∨ m = .wrw) ∧ 5 < (w.extractLsb' 32 8).toNat then some .badRegister
  else if m = .wrw ∧ 1 ≤ (w.extractLsb' 32 8).toNat ∧ (w.extractLsb' 32 8).toNat ≤ 4 then some .readOnlyRegister
  else if m = .locatea ∧ ((w.extractLsb' 32 7).toNat < 0x03 ∨ 0x76 < (w.extractLsb' 32 7).toNat) then some .badAddress
  else none

/-- A cell of the table of 44_driver_sequencer.md R171: the body runs, `DriverClosedError`, or
`WrongStateError`. -/
inductive Cell where
  | runs | closedError | wrongState
  deriving DecidableEq, Repr

/-- A row of that table, by driver state. -/
def tableRow (uninit located configured ready closed : Cell) : Fsm → Cell
  | .uninit => uninit
  | .located => located
  | .configured => configured
  | .ready => ready
  | .closed => closed

/-- The table of 44_driver_sequencer.md R171; the last cell of GETCAL depends on `S.CALV`. -/
def permission (calv : Bool) : Mnemonic → Fsm → Cell
  | .rdw => tableRow .wrongState .runs .runs .runs .closedError
  | .wrw => tableRow .wrongState .runs .runs .runs .closedError
  | .probe => tableRow .runs .runs .runs .runs .closedError
  | .enccfg => tableRow .runs .runs .runs .runs .runs
  | .deccfg => tableRow .runs .runs .runs .runs .runs
  | .decs16 => tableRow .runs .runs .runs .runs .runs
  | .decbv => tableRow .runs .runs .runs .runs .runs
  | .cvti => tableRow .runs .runs .runs .runs .runs
  | .cvtv => tableRow .runs .runs .runs .runs .runs
  | .cvtp => tableRow .runs .runs .runs .runs .runs
  | .calcCal => tableRow .runs .runs .runs .runs .runs
  | .locatea => tableRow .runs .wrongState .wrongState .wrongState .closedError
  | .locatep => tableRow .runs .wrongState .wrongState .wrongState .closedError
  | .configure => tableRow .wrongState .runs .wrongState .wrongState .closedError
  | .enable => tableRow .wrongState .wrongState .runs .wrongState .closedError
  | .rdcur => tableRow .wrongState .wrongState .wrongState .runs .closedError
  | .rdvbus => tableRow .wrongState .wrongState .wrongState .runs .closedError
  | .rdpwr => tableRow .wrongState .wrongState .wrongState .runs .closedError
  | .reconf => tableRow .wrongState .wrongState .runs .runs .closedError
  | .close => tableRow .runs .runs .runs .runs .closedError
  | .getst => tableRow .runs .runs .runs .runs .runs
  | .getcal => tableRow .wrongState .wrongState .runs .runs (if calv then .runs else .wrongState)

/-- The only transitions of the driver (10_state.md R21). -/
def Transition (i : Instr) (f g : Fsm) : Prop :=
  (f = .uninit ∧ g = .located ∧ (i.mnemonic = .locatea ∨ i.mnemonic = .locatep)) ∨
  (f = .located ∧ g = .configured ∧ i.mnemonic = .configure) ∨
  (f = .configured ∧ g = .ready ∧ i.mnemonic = .enable) ∨
  (f ≠ .closed ∧ g = .closed ∧ i.mnemonic = .close)

/-- Families 2, 3 and 4 (60_exceptions.md R205 a, the pure commands). -/
def pureCommands : List Mnemonic := [.enccfg, .deccfg, .decs16, .decbv, .cvti, .cvtv, .cvtp, .calcCal]

/-- The block's state after a successful initialisation (10_state.md R20 to R27). -/
def readyBlock (addr : BusAddr) (shunt : BitVec 16) (n : Nat) : Block :=
  { fsm := .ready, addrv := true, addr := addr, calv := true,
    cal := BitVec.ofNat 16 (quotient shunt), ilsb := 100#16, plsb := 2000#24, cfg := BitVec.ofNat 16 n }

/-- The block's state after its address is resolved to `addr` (44_driver_sequencer.md R160, R161). -/
def locatedBlock (b : Block) (addr : BusAddr) : Block := { b with fsm := .located, addrv := true, addr := addr }

/-- A host procedure begun in `s` ends with the response `r` and the block in `b`, having issued exactly the
transactions `ts` in all; the port is untouched and one answer is used up per transaction. -/
def EndsWith (out : Host.Outcome State Fault Refusal) (s : State) (ts : List Txn) (r : Response) (b : Block) : Prop :=
  ∃ t, out = .next t ∧ t.resp = some r ∧ t.blk = b ∧ t.history = s.history ++ ts ∧ t.env = s.env.drop ts.length ∧
    t.port = s.port

/-- How INIT goes on once the address `addr` is resolved, by the transactions `pre` (30_encoding.md R94): every
failure of CONFIGURE is returned with the block in LOCATED and nothing further issued; when both writes go
through, ENABLE follows and the block is in READY. -/
def ConfiguresAndEnables (out : Host.Outcome State Fault Refusal) (s : State) (pre : List Txn) (addr : BusAddr)
    (shunt imax : BitVec 16) (n : Nat) : Prop :=
  (shunt = 0#16 ∨ imax = 0#16 →
    EndsWith out s pre (.err .invalidCalibrationInputError 1#64) (locatedBlock s.blk addr)) ∧
  (shunt ≠ 0#16 → imax ≠ 0#16 → 65535 < quotient shunt →
    EndsWith out s pre (.err .invalidCalibrationInputError 2#64) (locatedBlock s.blk addr)) ∧
  (shunt ≠ 0#16 → imax ≠ 0#16 → quotient shunt ≤ 65535 →
    (∀ k, s.answerAfter pre (writeRequest addr 5#8 (quotient shunt)) = .fail k →
      EndsWith out s (pre ++ [writeTxn addr 5#8 (quotient shunt) (.fail k)]) (.err .busIOError (busInfo k 0))
        (locatedBlock s.blk addr)) ∧
    (∀ b0 b1 k, s.answerAfter pre (writeRequest addr 5#8 (quotient shunt)) = .ok b0 b1 →
      s.answerAfter (pre ++ [writeTxn addr 5#8 (quotient shunt) .ok]) (writeRequest addr 0#8 n) = .fail k →
      EndsWith out s (pre ++ [writeTxn addr 5#8 (quotient shunt) .ok, writeTxn addr 0#8 n (.fail k)])
        (.err .busIOError (busInfo k 1)) (locatedBlock s.blk addr)) ∧
    (∀ b0 b1 c0 c1, s.answerAfter pre (writeRequest addr 5#8 (quotient shunt)) = .ok b0 b1 →
      s.answerAfter (pre ++ [writeTxn addr 5#8 (quotient shunt) .ok]) (writeRequest addr 0#8 n) = .ok c0 c1 →
      EndsWith out s (pre ++ [writeTxn addr 5#8 (quotient shunt) .ok, writeTxn addr 0#8 n .ok])
        (.ok 0#64 0#32 0#32) (readyBlock addr shunt n)))

/-- The host's next input is the command word `w`. -/
abbrev Presents (s : State) (w : CmdWord) : Prop := s.port.head? = some (.command w)

end Sys2Proof.Claims

open Sys2Proof Sys2Proof.Machine Sys2Proof.Claims

/-! ### Encoding -/

/-- Decoding the word of a well-formed instruction gives the instruction back, at every operand value. -/
def Obligations.DecodeOfEncodeGivesInstructionBack : Prop :=
  ∀ i : Instr, WellFormed i → decode (encode i) = .ok i

/-- Every word that decodes is the word of the instruction it decodes to, which is well-formed. -/
def Obligations.EncodeOfDecodeGivesWordBack : Prop :=
  ∀ (w : CmdWord) (i : Instr), decode w = .ok i → encode i = w ∧ WellFormed i

/-- Words of every family written out bit by bit from the patterns of R76 decode to their instructions. -/
def Obligations.WrittenOutWordsDecode : Prop :=
  decode 0b0001000000000000000000000000010000000000000000000000000000000000#64 = .ok (.rdw 4#8) ∧
  decode 0b0010000000000000000000000000000000000000000000010011001100110111#64 =
    .ok (.enccfg 1#1 3#2 3#4 3#4 7#3) ∧
  decode 0b0011000000000000000000000000000000000000000000001111111111001110#64 = .ok (.decs16 0xFFCE#16) ∧
  decode 0b0100001000000000000001111101000000000000000000000000000001100100#64 = .ok (.cvtp 0x0064#16 2000#24) ∧
  decode 0b0101001000000001001100110011011100000000011001000000011111010000#64 =
    .ok (.configure 100#16 2000#16 1#1 3#2 3#4 3#4 7#3)

/-- R90: every word is exactly one command or illegal, in the order of the five cases; an illegal word gives
its sub-code in any state, with no state change and no transaction. -/
def Obligations.EveryWordIsOneCommandOrIllegal : Prop :=
  ∀ w : CmdWord,
    ((∀ row ∈ opcodeTable, w.extractLsb' 56 8 ≠ row.2.2.extractLsb' 56 8) → decode w = .error .undefinedOpcode) ∧
    (∀ row ∈ opcodeTable, w.extractLsb' 56 8 = row.2.2.extractLsb' 56 8 →
      (w &&& row.2.1 ≠ row.2.2 → decode w = .error .mustBeZero) ∧
      (∀ sub, w &&& row.2.1 = row.2.2 → operandSub row.1 w = some sub → decode w = .error sub) ∧
      (w &&& row.2.1 = row.2.2 → operandSub row.1 w = none → ∃ i, decode w = .ok i ∧ i.mnemonic = row.1)) ∧
    (∀ (s : State) (sub : IllegalSub), Presents s w → decode w = .error sub →
      step s = .next ({ s with port := s.port.tail }.afterCommand [] (.err .illegalCommandError
        (match sub with
          | .undefinedOpcode => 1#64 | .mustBeZero => 2#64 | .badRegister => 3#64
          | .readOnlyRegister => 4#64 | .badAddress => 5#64)))) ∧
    ((List.range 256).filter (fun n => (Mnemonic.ofOpcode (BitVec.ofNat 8 n)).isNone)).length = 234

/-- R93: a mnemonic and the operand numbers of an instruction, in the notation's order, stand for that
instruction. -/
def Obligations.AssemblingOperandsGivesInstructionBack : Prop :=
  ∀ i : Instr, assemble i.mnemonic i.operands = some i

/-! ### Steps and reset -/

/-- A step on a presented word that decodes runs that instruction, the word taken from the port. -/
def Obligations.StepRunsThePresentedCommand : Prop :=
  ∀ (s : State) (w : CmdWord) (i : Instr), Presents s w → decode w = .ok i →
    step s = exec i { s with port := s.port.tail }

/-- With nothing presented a step changes nothing. The model's choice: log entry 11. -/
def Obligations.IdleBlockStaysAsItIs : Prop := ∀ s : State, s.port = [] → step s = .next s

/-- A reset between commands puts every element at its reset value, issues no transaction and uses up no
answer of the environment (R230, R231). That it clears the last response is the model's choice: log entry 6. -/
def Obligations.ResetInputClearsBlockWithoutBus : Prop :=
  ∀ s : State, s.port.head? = some .rst →
    step s = .next
      { s with blk := Block.reset, resp := none, txns := [], past := s.past ++ s.txns, port := s.port.tail }

/-- R29: after reset every element is 0, UNINIT being the state numbered 0. -/
def Obligations.ResetStateIsAllZero : Prop :=
  fsmNumber State.reset.blk.fsm = 0 ∧ State.reset.blk.addrv = false ∧ State.reset.blk.addr = 0#7 ∧
  State.reset.blk.calv = false ∧ State.reset.blk.cal = 0#16 ∧ State.reset.blk.ilsb = 0#16 ∧
  State.reset.blk.plsb = 0#24 ∧ State.reset.blk.cfg = 0#16

/-! ### Family 1 -/

/-- R100, RDW. -/
def Obligations.RdwReadsOneRegisterWord : Prop :=
  ∀ (reg : RegNum) (s : State),
    (HasPattern (.rdw reg) 0xFFFFFF00FFFFFFFF#64 0x1000000000000000#64 ∧
      (encode (.rdw reg)).extractLsb' 32 8 = reg) ∧
    (∀ b0 b1, reg.toNat ≤ 5 → Driving s.blk → s.answer (.read s.blk.addr reg) = .ok b0 b1 →
      exec (.rdw reg) s = .next (s.afterCommand [.read s.blk.addr reg (.ok b0 b1)]
        (.ok (BitVec.ofNat 64 (b0.toNat * 256 + b1.toNat)) 0#32 0#32))) ∧
    (∀ k, reg.toNat ≤ 5 → Driving s.blk → s.answer (.read s.blk.addr reg) = .fail k →
      exec (.rdw reg) s = .next (s.afterCommand [.read s.blk.addr reg (.fail k)]
        (.err .busIOError (busInfo k 0)))) ∧
    (5 < reg.toNat → RefusedWith (.rdw reg) s .illegalCommandError 3#64) ∧
    (reg.toNat ≤ 5 → s.blk.fsm = .closed → RefusedWith (.rdw reg) s .driverClosedError 0#64) ∧
    (reg.toNat ≤ 5 → s.blk.fsm = .uninit → RefusedWith (.rdw reg) s .wrongStateError 0#64)

/-- R101, WRW. -/
def Obligations.WrwWritesOneRegisterWord : Prop :=
  ∀ (reg : RegNum) (val : Word) (s : State),
    (HasPattern (.wrw reg val) 0xFFFFFF00FFFF0000#64 0x1100000000000000#64 ∧
      (encode (.wrw reg val)).extractLsb' 32 8 = reg ∧ (encode (.wrw reg val)).extractLsb' 0 16 = val) ∧
    (∀ b0 b1, reg.toNat = 0 ∨ reg.toNat = 5 → Driving s.blk →
      s.answer (writeRequest s.blk.addr reg val.toNat) = .ok b0 b1 →
      exec (.wrw reg val) s = .next (s.afterCommand [writeTxn s.blk.addr reg val.toNat .ok] (.ok 0#64 0#32 0#32))) ∧
    (∀ k, reg.toNat = 0 ∨ reg.toNat = 5 → Driving s.blk →
      s.answer (writeRequest s.blk.addr reg val.toNat) = .fail k →
      exec (.wrw reg val) s = .next (s.afterCommand [writeTxn s.blk.addr reg val.toNat (.fail k)]
        (.err .busIOError (busInfo k 0)))) ∧
    (5 < reg.toNat → RefusedWith (.wrw reg val) s .illegalCommandError 3#64) ∧
    (1 ≤ reg.toNat → reg.toNat ≤ 4 → RefusedWith (.wrw reg val) s .illegalCommandError 4#64) ∧
    (reg.toNat = 0 ∨ reg.toNat = 5 → s.blk.fsm = .closed → RefusedWith (.wrw reg val) s .driverClosedError 0#64) ∧
    (reg.toNat = 0 ∨ reg.toNat = 5 → s.blk.fsm = .uninit → RefusedWith (.wrw reg val) s .wrongStateError 0#64)

/-- R102, PROBE. -/
def Obligations.ProbeReturnsFirstAcknowledgingAddress : Prop :=
  ∀ s : State,
    HasPattern .probe 0xFFFFFFFFFFFFFFFF#64 0x1200000000000000#64 ∧
    (∀ n < 116, s.blk.fsm ≠ .closed → SilentBelow s n → AcksAt s n →
      exec .probe s = .next (s.afterCommand (silentScan n ++ [.quick (BitVec.ofNat 7 (3 + n)) .ack])
        (.ok (BitVec.ofNat 64 (3 + n)) 1#32 0#32))) ∧
    (s.blk.fsm ≠ .closed → SilentBelow s 116 →
      exec .probe s = .next (s.afterCommand (silentScan 116) (.ok 0#64 0#32 0#32))) ∧
    (s.blk.fsm = .closed → RefusedWith .probe s .driverClosedError 0#64)

/-! ### Family 2 -/

/-- R121, ENCCFG. -/
def Obligations.EnccfgPutsFieldsAtTheirOffsets : Prop :=
  ∀ (brng : BitVec 1) (pg : BitVec 2) (badc sadc : BitVec 4) (mode : BitVec 3) (s : State),
    (HasPattern (.enccfg brng pg badc sadc mode) 0xFFFFFFFFFFFEC008#64 0x2000000000000000#64 ∧
      (encode (.enccfg brng pg badc sadc mode)).extractLsb' 16 1 = brng ∧
      (encode (.enccfg brng pg badc sadc mode)).extractLsb' 12 2 = pg ∧
      (encode (.enccfg brng pg badc sadc mode)).extractLsb' 8 4 = badc ∧
      (encode (.enccfg brng pg badc sadc mode)).extractLsb' 4 4 = sadc ∧
      (encode (.enccfg brng pg badc sadc mode)).extractLsb' 0 3 = mode) ∧
    exec (.enccfg brng pg badc sadc mode) s = .next (s.afterCommand []
      (.ok (BitVec.ofNat 64 (cfgNumber brng pg badc sadc mode)) 0#32 0#32))

/-- R122, DECCFG. -/
def Obligations.DeccfgExtractsTheFiveFields : Prop :=
  ∀ (raw : Word) (s : State),
    (HasPattern (.deccfg raw) 0xFFFFFFFFFFFF0000#64 0x2100000000000000#64 ∧
      (encode (.deccfg raw)).extractLsb' 0 16 = raw) ∧
    exec (.deccfg raw) s = .next (s.afterCommand []
      (.ok
        (BitVec.ofNat 64 (raw.toNat / 8192 % 2 * 65536 + raw.toNat / 2048 % 4 * 4096 + raw.toNat / 128 % 16 * 256 +
          raw.toNat / 8 % 16 * 16 + raw.toNat % 8))
        (BitVec.ofNat 32 (raw.toNat / 16384)) 0#32))

/-- R120: each field is found again at its offset, nothing bleeds into another, bits 15:14 are zero. -/
def Obligations.ConfigWordReproducesEachField : Prop :=
  ∀ c : CfgFields,
    (encodeConfig c).extractLsb' 14 2 = 0#2 ∧
    (encodeConfig c).extractLsb' 13 1 = c.brng ∧ encodeConfig ⟨c.brng, 0#2, 0#4, 0#4, 0#3⟩ = encodeConfig c &&& 0x2000#16 ∧
    (encodeConfig c).extractLsb' 11 2 = c.pg ∧ encodeConfig ⟨0#1, c.pg, 0#4, 0#4, 0#3⟩ = encodeConfig c &&& 0x1800#16 ∧
    (encodeConfig c).extractLsb' 7 4 = c.badc ∧ encodeConfig ⟨0#1, 0#2, c.badc, 0#4, 0#3⟩ = encodeConfig c &&& 0x0780#16 ∧
    (encodeConfig c).extractLsb' 3 4 = c.sadc ∧ encodeConfig ⟨0#1, 0#2, 0#4, c.sadc, 0#3⟩ = encodeConfig c &&& 0x0078#16 ∧
    (encodeConfig c).extractLsb' 0 3 = c.mode ∧ encodeConfig ⟨0#1, 0#2, 0#4, 0#4, c.mode⟩ = encodeConfig c &&& 0x0007#16

/-- R123: the round trip both ways; the encoder maps the field combinations one to one onto the words below
0x4000. -/
def Obligations.ConfigRoundTrip : Prop :=
  (∀ c : CfgFields, decodeConfig (encodeConfig c) = c) ∧
  (∀ w : Word, encodeConfig (decodeConfig w) = w &&& 0x3FFF#16) ∧
  (∀ c d : CfgFields, encodeConfig c = encodeConfig d → c = d) ∧
  (∀ w : Word, w.toNat < 0x4000 ↔ ∃ c : CfgFields, encodeConfig c = w)

/-! ### Family 3 -/

/-- R130, DECS16. -/
def Obligations.Decs16IsTwosComplement : Prop :=
  ∀ (raw : Word) (s : State),
    (HasPattern (.decs16 raw) 0xFFFFFFFFFFFF0000#64 0x3000000000000000#64 ∧
      (encode (.decs16 raw)).extractLsb' 0 16 = raw) ∧
    exec (.decs16 raw) s = .next (s.afterCommand [] (.ok (BitVec.ofInt 64 (signed raw)) 0#32 0#32)) ∧
    (BitVec.ofInt 64 (signed raw)).toInt = signed raw ∧ BitVec.ofInt 64 (signed raw) = raw.signExtend 64 ∧
    (-32768 ≤ signed raw ∧ signed raw ≤ 32767) ∧ signed raw % 65536 = raw.toNat

/-- R131, DECBV. -/
def Obligations.DecbvDecodesThreeFields : Prop :=
  ∀ (raw : Word) (s : State),
    (HasPattern (.decbv raw) 0xFFFFFFFFFFFF0000#64 0x3100000000000000#64 ∧
      (encode (.decbv raw)).extractLsb' 0 16 = raw) ∧
    exec (.decbv raw) s = .next (s.afterCommand []
      (.ok (BitVec.ofNat 64 (raw.toNat / 8 * 4)) (BitVec.ofNat 32 (raw.toNat / 2 % 2)) (BitVec.ofNat 32 (raw.toNat % 2))))

/-- R133: the laws of the two decoders. -/
def Obligations.ReadingDecoderLaws : Prop :=
  (∀ raw : Word, (decodeBusVoltage raw).mv = 4 * (raw.toNat / 8)) ∧
  (∀ (count : BitVec 13) (b2 cnvr ovf : Bool),
    decodeBusVoltage (BitVec.ofNat 16 (count.toNat * 8 + b2.toNat * 4 + cnvr.toNat * 2 + ovf.toNat)) =
      { mv := 4 * count.toNat, cnvr := cnvr, ovf := ovf }) ∧
  (∀ a b : Word, a.toNat < b.toNat → b.toNat ≤ 32767 ∨ 32768 ≤ a.toNat → s16 a < s16 b) ∧
  s16 32768#16 < s16 0#16

/-! ### Family 4 -/

/-- R140, CVTI. -/
def Obligations.CvtiMultipliesSignedCount : Prop :=
  ∀ (raw : Word) (scale : BitVec 24) (s : State),
    (HasPattern (.cvti raw scale) 0xFF000000FFFF0000#64 0x4000000000000000#64 ∧
      (encode (.cvti raw scale)).extractLsb' 0 16 = raw ∧ (encode (.cvti raw scale)).extractLsb' 32 24 = scale) ∧
    exec (.cvti raw scale) s = .next (s.afterCommand []
      (.ok (BitVec.ofInt 64 (signed raw * scale.toNat)) 0#32 0#32)) ∧
    (BitVec.ofInt 64 (signed raw * scale.toNat)).toInt = signed raw * scale.toNat ∧
    (signed raw * scale.toNat).natAbs ≤ 549755781120

/-- R141, CVTV. -/
def Obligations.CvtvScalesByFourMillivolts : Prop :=
  ∀ (count : BitVec 13) (s : State),
    (HasPattern (.cvtv count) 0xFFFFFFFFFFFFE000#64 0x4100000000000000#64 ∧
      (encode (.cvtv count)).extractLsb' 0 13 = count) ∧
    exec (.cvtv count) s = .next (s.afterCommand [] (.ok (BitVec.ofNat 64 (count.toNat * 4)) 0#32 0#32)) ∧
    count.toNat * 4 ≤ 32764 ∧
    (∀ raw : Word, (decodeBusVoltage raw).mv = scaleBusVoltage (raw.extractLsb' 3 13))

/-- R142, CVTP. -/
def Obligations.CvtpMultipliesUnsignedCount : Prop :=
  ∀ (raw : Word) (scale : BitVec 24) (s : State),
    (HasPattern (.cvtp raw scale) 0xFF000000FFFF0000#64 0x4200000000000000#64 ∧
      (encode (.cvtp raw scale)).extractLsb' 0 16 = raw ∧ (encode (.cvtp raw scale)).extractLsb' 32 24 = scale) ∧
    exec (.cvtp raw scale) s = .next (s.afterCommand []
      (.ok (BitVec.ofNat 64 (raw.toNat * scale.toNat)) 0#32 0#32)) ∧
    (BitVec.ofNat 64 (raw.toNat * scale.toNat)).toNat = raw.toNat * scale.toNat ∧
    raw.toNat * scale.toNat ≤ 1099494785025

/-- R151, CALC. -/
def Obligations.CalcReturnsCalibrationState : Prop :=
  ∀ (shunt imax : BitVec 16) (brng : BitVec 1) (pg : BitVec 2) (badc sadc : BitVec 4) (s : State),
    (HasPattern (.calcCal shunt imax brng pg badc sadc) 0xFFFEC00F00000000#64 0x4300000000000000#64 ∧
      (encode (.calcCal shunt imax brng pg badc sadc)).extractLsb' 16 16 = shunt ∧
      (encode (.calcCal shunt imax brng pg badc sadc)).extractLsb' 0 16 = imax ∧
      (encode (.calcCal shunt imax brng pg badc sadc)).extractLsb' 48 1 = brng ∧
      (encode (.calcCal shunt imax brng pg badc sadc)).extractLsb' 44 2 = pg ∧
      (encode (.calcCal shunt imax brng pg badc sadc)).extractLsb' 40 4 = badc ∧
      (encode (.calcCal shunt imax brng pg badc sadc)).extractLsb' 36 4 = sadc) ∧
    (shunt ≠ 0#16 → imax ≠ 0#16 → quotient shunt ≤ 65535 →
      exec (.calcCal shunt imax brng pg badc sadc) s = .next (s.afterCommand []
        (.ok (BitVec.ofNat 64 (quotient shunt)) 100#32 2000#32))) ∧
    (shunt = 0#16 ∨ imax = 0#16 →
      RefusedWith (.calcCal shunt imax brng pg badc sadc) s .invalidCalibrationInputError 1#64) ∧
    (shunt ≠ 0#16 → imax ≠ 0#16 → 65535 < quotient shunt →
      RefusedWith (.calcCal shunt imax brng pg badc sadc) s .invalidCalibrationInputError 2#64) ∧
    (quotient 7#16 = 58514 ∧ 65535 < quotient 6#16)

/-- R152: the invariants of every CalibrationState `ComputeCal` returns, for every value in the range of
`LSB_SELECT`, and so on this hardware. -/
def Obligations.CalibrationStateInvariants : Prop :=
  (∀ (lsb shunt imax : BitVec 16) (cs : CalState), lsb ≠ 0#16 → computeCalFor lsb shunt imax = .ok cs →
    cs.plsb.toNat = 20 * cs.ilsb.toNat ∧ (1 ≤ cs.ilsb.toNat ∧ cs.ilsb.toNat ≤ 65535) ∧
    cs.cal.toNat * cs.ilsb.toNat * shunt.toNat ≤ 40960000 ∧
    40960000 < (cs.cal.toNat + 1) * cs.ilsb.toNat * shunt.toNat) ∧
  (∀ (shunt imax : BitVec 16) (brng : BitVec 1) (pg : BitVec 2) (badc sadc : BitVec 4),
    computeCal shunt imax brng pg badc sadc = computeCalFor 100#16 shunt imax) ∧
  (∀ (brng : BitVec 1) (pg : BitVec 2) (badc sadc : BitVec 4),
    computeCal 100#16 2000#16 brng pg badc sadc = .ok { cal := 4096#16, ilsb := 100#16, plsb := 2000#24 })

/-! ### Family 5 -/

/-- R160, LOCATEA. -/
def Obligations.LocateaResolvesTheAddress : Prop :=
  ∀ (addr : BusAddr) (s : State),
    (HasPattern (.locatea addr) 0xFFFFFF80FFFFFFFF#64 0x5000000000000000#64 ∧
      (encode (.locatea addr)).extractLsb' 32 7 = addr) ∧
    (InBusRange addr → s.blk.fsm = .uninit →
      exec (.locatea addr) s = .next
        { s.afterCommand [] (.ok (BitVec.ofNat 64 addr.toNat) 0#32 0#32) with
          blk := { s.blk with fsm := .located, addrv := true, addr := addr } }) ∧
    (¬ InBusRange addr → RefusedWith (.locatea addr) s .illegalCommandError 5#64) ∧
    (InBusRange addr → s.blk.fsm = .closed → RefusedWith (.locatea addr) s .driverClosedError 0#64) ∧
    (InBusRange addr → Driving s.blk →
      RefusedWith (.locatea addr) s .wrongStateError (BitVec.ofNat 64 (fsmNumber s.blk.fsm)))

/-- R161, LOCATEP. -/
def Obligations.LocatepResolvesFirstAcknowledgingAddress : Prop :=
  ∀ s : State,
    HasPattern .locatep 0xFFFFFFFFFFFFFFFF#64 0x5100000000000000#64 ∧
    (∀ n < 116, s.blk.fsm = .uninit → SilentBelow s n → AcksAt s n →
      exec .locatep s = .next
        { s.afterCommand (silentScan n ++ [.quick (BitVec.ofNat 7 (3 + n)) .ack])
            (.ok (BitVec.ofNat 64 (3 + n)) 1#32 0#32) with
          blk := { s.blk with fsm := .located, addrv := true, addr := BitVec.ofNat 7 (3 + n) } }) ∧
    (s.blk.fsm = .uninit → SilentBelow s 116 →
      exec .locatep s = .next (s.afterCommand (silentScan 116) (.err .deviceNotFoundError 0#64))) ∧
    (s.blk.fsm = .closed → RefusedWith .locatep s .driverClosedError 0#64) ∧
    (Driving s.blk → RefusedWith .locatep s .wrongStateError (BitVec.ofNat 64 (fsmNumber s.blk.fsm)))

/-- R162, CONFIGURE. -/
def Obligations.ConfigureWritesCalibrationThenConfig : Prop :=
  ∀ (shunt imax : BitVec 16) (brng : BitVec 1) (pg : BitVec 2) (badc sadc : BitVec 4) (mode : BitVec 3) (s : State),
    (HasPattern (.configure shunt imax brng pg badc sadc mode) 0xFFFEC00800000000#64 0x5200000000000000#64 ∧
      (encode (.configure shunt imax brng pg badc sadc mode)).extractLsb' 16 16 = shunt ∧
      (encode (.configure shunt imax brng pg badc sadc mode)).extractLsb' 0 16 = imax ∧
      (encode (.configure shunt imax brng pg badc sadc mode)).extractLsb' 48 1 = brng ∧
      (encode (.configure shunt imax brng pg badc sadc mode)).extractLsb' 44 2 = pg ∧
      (encode (.configure shunt imax brng pg badc sadc mode)).extractLsb' 40 4 = badc ∧
      (encode (.configure shunt imax brng pg badc sadc mode)).extractLsb' 36 4 = sadc ∧
      (encode (.configure shunt imax brng pg badc sadc mode)).extractLsb' 32 3 = mode) ∧
    (s.blk.fsm = .located →
      Reconfigures (.configure shunt imax brng pg badc sadc mode) s shunt imax (cfgNumber brng pg badc sadc mode)
        .configured) ∧
    (s.blk.fsm = .closed → RefusedWith (.configure shunt imax brng pg badc sadc mode) s .driverClosedError 0#64) ∧
    (s.blk.fsm = .uninit ∨ s.blk.fsm = .configured ∨ s.blk.fsm = .ready →
      RefusedWith (.configure shunt imax brng pg badc sadc mode) s .wrongStateError
        (BitVec.ofNat 64 (fsmNumber s.blk.fsm)))

/-- R163, ENABLE. -/
def Obligations.EnableMarksTheDriverReady : Prop :=
  ∀ s : State,
    HasPattern .enable 0xFFFFFFFFFFFFFFFF#64 0x5300000000000000#64 ∧
    (s.blk.fsm = .configured →
      exec .enable s = .next { s.afterCommand [] (.ok 0#64 0#32 0#32) with blk := { s.blk with fsm := .ready } }) ∧
    (s.blk.fsm = .closed → RefusedWith .enable s .driverClosedError 0#64) ∧
    (s.blk.fsm = .uninit ∨ s.blk.fsm = .located ∨ s.blk.fsm = .ready →
      RefusedWith .enable s .wrongStateError (BitVec.ofNat 64 (fsmNumber s.blk.fsm)))

/-- R164, RDCUR. -/
def Obligations.RdcurScalesSignedCurrent : Prop :=
  ∀ s : State,
    HasPattern .rdcur 0xFFFFFFFFFFFFFFFF#64 0x5400000000000000#64 ∧
    (∀ b0 b1, s.blk.fsm = .ready → s.answer (.read s.blk.addr 4#8) = .ok b0 b1 →
      exec .rdcur s = .next (s.afterCommand [.read s.blk.addr 4#8 (.ok b0 b1)]
        (.ok (BitVec.ofInt 64 (signed (BitVec.ofNat 16 (b0.toNat * 256 + b1.toNat)) * s.blk.ilsb.toNat)) 0#32 0#32))) ∧
    (∀ k, s.blk.fsm = .ready → s.answer (.read s.blk.addr 4#8) = .fail k →
      exec .rdcur s = .next (s.afterCommand [.read s.blk.addr 4#8 (.fail k)] (.err .busIOError (busInfo k 0)))) ∧
    (s.blk.fsm = .closed → RefusedWith .rdcur s .driverClosedError 0#64) ∧
    (s.blk.fsm = .uninit ∨ s.blk.fsm = .located ∨ s.blk.fsm = .configured →
      RefusedWith .rdcur s .wrongStateError (BitVec.ofNat 64 (fsmNumber s.blk.fsm)))

/-- R165, RDVBUS: `b1` bit 1 is the word's conversion-ready bit. -/
def Obligations.RdvbusRetriesOnceWhenNotReady : Prop :=
  ∀ s : State,
    HasPattern .rdvbus 0xFFFFFFFFFFFFFFFF#64 0x5500000000000000#64 ∧
    (∀ b0 b1, s.blk.fsm = .ready → s.answer (.read s.blk.addr 2#8) = .ok b0 b1 → b1.getLsbD 1 = true →
      exec .rdvbus s = .next (s.afterCommand [.read s.blk.addr 2#8 (.ok b0 b1)]
        (.ok (BitVec.ofNat 64 ((b0.toNat * 256 + b1.toNat) / 8 * 4)) 1#32 (BitVec.ofNat 32 (b1.toNat % 2))))) ∧
    (∀ b0 b1 c0 c1, s.blk.fsm = .ready → s.answer (.read s.blk.addr 2#8) = .ok b0 b1 → b1.getLsbD 1 = false →
      s.answerAfter [.read s.blk.addr 2#8 (.ok b0 b1)] (.read s.blk.addr 2#8) = .ok c0 c1 →
      exec .rdvbus s = .next (s.afterCommand
        [.read s.blk.addr 2#8 (.ok b0 b1), .read s.blk.addr 2#8 (.ok c0 c1)]
        (.ok (BitVec.ofNat 64 ((c0.toNat * 256 + c1.toNat) / 8 * 4)) (BitVec.ofNat 32 (c1.toNat / 2 % 2))
          (BitVec.ofNat 32 (c1.toNat % 2))))) ∧
    (∀ k, s.blk.fsm = .ready → s.answer (.read s.blk.addr 2#8) = .fail k →
      exec .rdvbus s = .next (s.afterCommand [.read s.blk.addr 2#8 (.fail k)] (.err .busIOError (busInfo k 0)))) ∧
    (∀ b0 b1 k, s.blk.fsm = .ready → s.answer (.read s.blk.addr 2#8) = .ok b0 b1 → b1.getLsbD 1 = false →
      s.answerAfter [.read s.blk.addr 2#8 (.ok b0 b1)] (.read s.blk.addr 2#8) = .fail k →
      exec .rdvbus s = .next (s.afterCommand
        [.read s.blk.addr 2#8 (.ok b0 b1), .read s.blk.addr 2#8 (.fail k)] (.err .busIOError (busInfo k 1)))) ∧
    (s.blk.fsm = .closed → RefusedWith .rdvbus s .driverClosedError 0#64) ∧
    (s.blk.fsm = .uninit ∨ s.blk.fsm = .located ∨ s.blk.fsm = .configured →
      RefusedWith .rdvbus s .wrongStateError (BitVec.ofNat 64 (fsmNumber s.blk.fsm)))

/-- R166, RDPWR. -/
def Obligations.RdpwrScalesUnsignedPower : Prop :=
  ∀ s : State,
    HasPattern .rdpwr 0xFFFFFFFFFFFFFFFF#64 0x5600000000000000#64 ∧
    (∀ b0 b1, s.blk.fsm = .ready → s.answer (.read s.blk.addr 3#8) = .ok b0 b1 →
      exec .rdpwr s = .next (s.afterCommand [.read s.blk.addr 3#8 (.ok b0 b1)]
        (.ok (BitVec.ofNat 64 ((b0.toNat * 256 + b1.toNat) * s.blk.plsb.toNat)) 0#32 0#32))) ∧
    (∀ k, s.blk.fsm = .ready → s.answer (.read s.blk.addr 3#8) = .fail k →
      exec .rdpwr s = .next (s.afterCommand [.read s.blk.addr 3#8 (.fail k)] (.err .busIOError (busInfo k 0)))) ∧
    (s.blk.fsm = .closed → RefusedWith .rdpwr s .driverClosedError 0#64) ∧
    (s.blk.fsm = .uninit ∨ s.blk.fsm = .located ∨ s.blk.fsm = .configured →
      RefusedWith .rdpwr s .wrongStateError (BitVec.ofNat 64 (fsmNumber s.blk.fsm)))

/-- R167, RECONF. -/
def Obligations.ReconfRewritesBothRegisters : Prop :=
  ∀ (shunt imax : BitVec 16) (brng : BitVec 1) (pg : BitVec 2) (badc sadc : BitVec 4) (mode : BitVec 3) (s : State),
    (HasPattern (.reconf shunt imax brng pg badc sadc mode) 0xFFFEC00800000000#64 0x5700000000000000#64 ∧
      (encode (.reconf shunt imax brng pg badc sadc mode)).extractLsb' 16 16 = shunt ∧
      (encode (.reconf shunt imax brng pg badc sadc mode)).extractLsb' 0 16 = imax ∧
      (encode (.reconf shunt imax brng pg badc sadc mode)).extractLsb' 48 1 = brng ∧
      (encode (.reconf shunt imax brng pg badc sadc mode)).extractLsb' 44 2 = pg ∧
      (encode (.reconf shunt imax brng pg badc sadc mode)).extractLsb' 40 4 = badc ∧
      (encode (.reconf shunt imax brng pg badc sadc mode)).extractLsb' 36 4 = sadc ∧
      (encode (.reconf shunt imax brng pg badc sadc mode)).extractLsb' 32 3 = mode) ∧
    (s.blk.fsm = .configured ∨ s.blk.fsm = .ready →
      Reconfigures (.reconf shunt imax brng pg badc sadc mode) s shunt imax (cfgNumber brng pg badc sadc mode)
        s.blk.fsm) ∧
    (s.blk.fsm = .closed → RefusedWith (.reconf shunt imax brng pg badc sadc mode) s .driverClosedError 0#64) ∧
    (s.blk.fsm = .uninit ∨ s.blk.fsm = .located →
      RefusedWith (.reconf shunt imax brng pg badc sadc mode) s .wrongStateError
        (BitVec.ofNat 64 (fsmNumber s.blk.fsm)))

/-- R168, CLOSE. -/
def Obligations.CloseGivesUpTheBus : Prop :=
  ∀ s : State,
    HasPattern .close 0xFFFFFFFFFFFFFFFF#64 0x5800000000000000#64 ∧
    (s.blk.fsm ≠ .closed →
      exec .close s = .next { s.afterCommand [] (.ok 0#64 0#32 0#32) with blk := { s.blk with fsm := .closed } }) ∧
    (s.blk.fsm = .closed → RefusedWith .close s .driverClosedError 0#64) ∧
    (∀ i, s.blk.fsm = .closed → WellFormed i →
      i.mnemonic ∉ pureCommands → i.mnemonic ≠ .getst → i.mnemonic ≠ .getcal →
      RefusedWith i s .driverClosedError 0#64) ∧
    (∀ i, s.blk.fsm = .closed → i.mnemonic ∈ pureCommands →
      ∃ t r, exec i s = .next t ∧ t.resp = some r ∧ ∀ e, r ≠ .err .driverClosedError e ∧ r ≠ .err .wrongStateError e)

/-- R169, GETST. -/
def Obligations.GetstReportsTheDriverState : Prop :=
  ∀ s : State,
    HasPattern .getst 0xFFFFFFFFFFFFFFFF#64 0x5900000000000000#64 ∧
    exec .getst s = .next (s.afterCommand []
      (.ok (BitVec.ofNat 64 (fsmNumber s.blk.fsm))
        (BitVec.ofNat 32 (s.blk.addrv.toNat * 128 + s.blk.addr.toNat))
        (BitVec.ofNat 32 (s.blk.calv.toNat * 65536 + s.blk.cfg.toNat))))

/-- R170, GETCAL. -/
def Obligations.GetcalReportsTheShadow : Prop :=
  ∀ s : State,
    HasPattern .getcal 0xFFFFFFFFFFFFFFFF#64 0x5A00000000000000#64 ∧
    (s.blk.calv = true →
      exec .getcal s = .next (s.afterCommand []
        (.ok (BitVec.ofNat 64 s.blk.cal.toNat) (BitVec.ofNat 32 s.blk.ilsb.toNat)
          (BitVec.ofNat 32 s.blk.plsb.toNat)))) ∧
    (s.blk.calv = false →
      RefusedWith .getcal s .wrongStateError (BitVec.ofNat 64 (fsmNumber s.blk.fsm)))

/-! ### Byte order, codes, readings -/

/-- R42: big-endian, and the three functions are inverse to one another. -/
def Obligations.RegisterWordsAreBigEndian : Prop :=
  (∀ b0 b1 : Byte, (be16 b0 b1).toNat = b0.toNat * 256 + b1.toNat) ∧
  (∀ v : Word, (hiByte v).toNat = v.toNat / 256 ∧ (loByte v).toNat = v.toNat % 256) ∧
  (∀ v : Word, be16 (hiByte v) (loByte v) = v) ∧
  (∀ b0 b1 : Byte, hiByte (be16 b0 b1) = b0 ∧ loByte (be16 b0 b1) = b1)

/-- R200: the seven values of `ST`. -/
def Obligations.StatusTakesSevenValues : Prop :=
  (∀ r0 r1 r2, (Response.ok r0 r1 r2).st = 0#8) ∧
  (∀ e, (Response.err .busIOError e).st = 1#8) ∧
  (∀ e, (Response.err .deviceNotFoundError e).st = 2#8) ∧
  (∀ e, (Response.err .driverClosedError e).st = 3#8) ∧
  (∀ e, (Response.err .invalidCalibrationInputError e).st = 4#8) ∧
  (∀ e, (Response.err .illegalCommandError e).st = 5#8) ∧
  (∀ e, (Response.err .wrongStateError e).st = 6#8) ∧
  (∀ r : Response, r.st.toNat < 7)

/-- R203: the error information of each failure; on failure R0 carries it and R1 = R2 = 0. -/
def Obligations.ErrorInformationLayout : Prop :=
  (∀ k n, n < 256 → (Failure.busIO k n).einfo.toNat = n * 256 + kindNumber k) ∧
  Failure.deviceNotFound.einfo = 0#64 ∧ Failure.driverClosed.einfo = 0#64 ∧
  (Failure.invalidCalibration .zeroInput).einfo = 1#64 ∧ (Failure.invalidCalibration .quotientTooBig).einfo = 2#64 ∧
  (Failure.illegalCommand .undefinedOpcode).einfo = 1#64 ∧ (Failure.illegalCommand .mustBeZero).einfo = 2#64 ∧
  (Failure.illegalCommand .badRegister).einfo = 3#64 ∧ (Failure.illegalCommand .readOnlyRegister).einfo = 4#64 ∧
  (Failure.illegalCommand .badAddress).einfo = 5#64 ∧
  (∀ f, (Failure.wrongState f).einfo.toNat = fsmNumber f) ∧
  (∀ st e, (Response.err st e).r0 = e ∧ (Response.err st e).r1 = 0#32 ∧ (Response.err st e).r2 = 0#32)

/-- R16: at the documented current and power LSB the typed reads stand for the source's real numbers: the
count times 0.1 mA, times 0.004 V, times 0.002 W. -/
def Obligations.TypedReadsAreTheSourcesReals : Prop :=
  ∀ (s : State) (b0 b1 : Byte), s.blk.fsm = .ready → s.blk.ilsb = 100#16 → s.blk.plsb = 2000#24 →
    (s.answer (.read s.blk.addr 4#8) = .ok b0 b1 →
      ∃ t r0, exec .rdcur s = .next t ∧ t.resp = some (.ok r0 0#32 0#32) ∧
        currentMilliamps r0 = (signed (BitVec.ofNat 16 (b0.toNat * 256 + b1.toNat)) : Rat) / 10) ∧
    (s.answer (.read s.blk.addr 3#8) = .ok b0 b1 →
      ∃ t r0, exec .rdpwr s = .next t ∧ t.resp = some (.ok r0 0#32 0#32) ∧
        powerWatts r0 = ((b0.toNat * 256 + b1.toNat : Nat) : Rat) / 500) ∧
    (s.answer (.read s.blk.addr 2#8) = .ok b0 b1 → b1.getLsbD 1 = true →
      ∃ t r0 ovf, exec .rdvbus s = .next t ∧ t.resp = some (.ok r0 1#32 ovf) ∧
        busVolts r0 = (((b0.toNat * 256 + b1.toNat) / 8 : Nat) : Rat) / 250)

/-! ### Failures and the whole machine -/

/-- R60: every command gives a response. -/
def Obligations.EveryCommandGivesAResponse : Prop :=
  ∀ (i : Instr) (s : State), ∃ t r, exec i s = .next t ∧ t.resp = some r

/-- R206: a command that fails has written no state element; of the model, only the response, the record of
the transactions it did issue and the answers they used up have changed. -/
def Obligations.FailureLeavesNoTraceInTheBlock : Prop :=
  ∀ (i : Instr) (s t : State) (status : ErrStatus) (einfo : BitVec 64),
    exec i s = .next t → t.resp = some (.err status einfo) → t = s.afterCommand t.txns (.err status einfo)

/-- R171: the table of allowed states, cell by cell, in every state that meets the invariant. -/
def Obligations.StatesGateCommandsAsTabulated : Prop :=
  ∀ (i : Instr) (s : State), WellFormed i → s.blk.Inv →
    (permission s.blk.calv i.mnemonic s.blk.fsm = .runs →
      ∃ t r, exec i s = .next t ∧ t.resp = some r ∧
        ∀ e, r ≠ .err .driverClosedError e ∧ r ≠ .err .wrongStateError e ∧ r ≠ .err .illegalCommandError e) ∧
    (permission s.blk.calv i.mnemonic s.blk.fsm = .closedError → RefusedWith i s .driverClosedError 0#64) ∧
    (permission s.blk.calv i.mnemonic s.blk.fsm = .wrongState →
      RefusedWith i s .wrongStateError (BitVec.ofNat 64 (fsmNumber s.blk.fsm)))

/-- R51: a failed transaction is the last of its command, which gives it to the caller as it is: its kind and its
index are the response. The only second read is RDVBUS's, after a successful first read whose conversion-ready
bit is 0. -/
def Obligations.FailedTransactionIsNeverRetried : Prop :=
  ∀ (i : Instr) (s t : State), exec i s = .next t →
    (∀ before x after k, t.txns = before ++ x :: after → txnFailure x = some k →
      after = [] ∧ t.resp = some (.err .busIOError (busInfo k before.length))) ∧
    (∀ before a r o after b q p, t.txns = before ++ Txn.read a r o :: after → Txn.read b q p ∈ after →
      i = .rdvbus ∧ b = a ∧ r = 2#8 ∧ q = 2#8 ∧ before = [] ∧ after.length = 1 ∧
        ∃ b0 b1, o = .ok b0 b1 ∧ b1.getLsbD 1 = false)

/-- How many transactions a command may issue: quick writes only in PROBE and LOCATEP, at most 116; at most
two in CONFIGURE, RECONF and RDVBUS; at most one in RDW, WRW, RDCUR and RDPWR; none in the others. -/
def Obligations.TransactionBudgetOfEachCommand : Prop :=
  ∀ (i : Instr) (s t : State), exec i s = .next t →
    t.txns.length ≤
      (match i.mnemonic with
        | .probe => 116 | .locatep => 116
        | .configure => 2 | .reconf => 2 | .rdvbus => 2
        | .rdw => 1 | .wrw => 1 | .rdcur => 1 | .rdpwr => 1
        | _ => 0) ∧
    (∀ a o, Txn.quick a o ∈ t.txns → i = .probe ∨ i = .locatep)

/-- The frame of every command: whatever it does, only the block's state, the response and the record of its
transactions change; the port is untouched and one answer is used up per transaction. -/
def Obligations.FrameOfEveryCommand : Prop :=
  ∀ (i : Instr) (s t : State), exec i s = .next t →
    ∃ r, t = { s.afterCommand t.txns r with blk := t.blk }

/-- R55: commands one at a time and in order: a step takes one input, everything issued before it stays
before what it issues, and nothing is pending after it. That an idle step changes nothing and that a reset leaves no
response are the model's choices: log entries 11 and 6. -/
def Obligations.TransactionsHappenInProgramOrder : Prop :=
  ∀ (s t : State), step s = .next t →
    (s.port = [] → t = s) ∧
    (∀ x rest, s.port = x :: rest →
      t.port = rest ∧ t.past = s.past ++ s.txns ∧ t.env = s.env.drop t.txns.length ∧
      (x = .rst → t.txns = [] ∧ t.resp = none) ∧ (x ≠ .rst → ∃ r, t.resp = some r))

/-- R21: the only transitions; a failed command makes none; only reset leaves CLOSED. -/
def Obligations.OnlyTheListedTransitionsHappen : Prop :=
  ∀ (s t : State), step s = .next t →
    t.blk.fsm = s.blk.fsm ∨
    (∃ w i r0 r1 r2, Presents s w ∧ decode w = .ok i ∧ Transition i s.blk.fsm t.blk.fsm ∧
      t.resp = some (.ok r0 r1 r2)) ∨
    (s.port.head? = some .rst ∧ t.blk.fsm = .uninit)

/-- R22: the address is written only at the UNINIT to LOCATED transition, with a value in range, and keeps its
value until reset. -/
def Obligations.AddressIsWrittenOnlyAtLocating : Prop :=
  ∀ (s t : State), s.blk.Inv → step s = .next t →
    (t.blk.addr = s.blk.addr ∧ t.blk.addrv = s.blk.addrv) ∨
    (s.blk.fsm = .uninit ∧ t.blk.fsm = .located ∧ s.blk.addrv = false ∧ t.blk.addrv = true ∧
      InBusRange t.blk.addr) ∨
    (s.port.head? = some .rst ∧ t.blk.addr = 0#7 ∧ t.blk.addrv = false)

/-- R25 to R27: only CONFIGURE and RECONF write the shadow, all of it together from one `ComputeCal`, after
both bus writes succeeded. -/
def Obligations.ShadowIsCommittedWholeOrNotAtAll : Prop :=
  ∀ (i : Instr) (s t : State), exec i s = .next t →
    (t.blk.calv = s.blk.calv ∧ t.blk.cal = s.blk.cal ∧ t.blk.ilsb = s.blk.ilsb ∧ t.blk.plsb = s.blk.plsb ∧
      t.blk.cfg = s.blk.cfg) ∨
    (∃ shunt imax brng pg badc sadc mode cs,
      (i = .configure shunt imax brng pg badc sadc mode ∨ i = .reconf shunt imax brng pg badc sadc mode) ∧
      computeCal shunt imax brng pg badc sadc = .ok cs ∧
      t.txns = [writeTxn s.blk.addr 5#8 cs.cal.toNat .ok,
        writeTxn s.blk.addr 0#8 (cfgNumber brng pg badc sadc mode) .ok] ∧
      t.blk.calv = true ∧ t.blk.cal = cs.cal ∧ t.blk.ilsb = cs.ilsb ∧ t.blk.plsb = cs.plsb ∧
      t.blk.cfg = BitVec.ofNat 16 (cfgNumber brng pg badc sadc mode))

/-- R24: a closed block issues no transaction, and nothing but reset changes its state. -/
def Obligations.ClosedBlockIssuesNoTransaction : Prop :=
  ∀ (s t : State), s.blk.fsm = .closed → s.port.head? ≠ some .rst → step s = .next t →
    t.blk = s.blk ∧ t.env = s.env ∧ t.past ++ t.txns = s.past ++ s.txns

/-- R41: nothing but quick writes at 0x03 to 0x76 and accesses to the six registers of the resolved address,
itself in that range, ever goes on the bus, and only Config and Calibration are written. -/
def Obligations.OnlyLegalTransactionsReachTheBus : Prop :=
  ∀ (s t : State), s.blk.Inv → step s = .next t →
    ∃ new, t.past ++ t.txns = (s.past ++ s.txns) ++ new ∧ ∀ x ∈ new, LegalTxn t.blk.addr x

/-- The invariant of the block's state holds at reset. -/
def Obligations.InvariantHoldsAtReset : Prop := State.reset.blk.Inv

/-- Every step keeps the invariant of the block's state. -/
def Obligations.EveryStepKeepsTheInvariant : Prop :=
  ∀ (s t : State), s.blk.Inv → step s = .next t → t.blk.Inv

/-- R205 a: a pure command answers the same in every two states, issues nothing and changes no state. -/
def Obligations.PureCommandsDependOnNoState : Prop :=
  ∀ (i : Instr), i.mnemonic ∈ pureCommands →
    ∃ r, ∀ s : State, exec i s = .next (s.afterCommand [] r)

/-- R35: no command reads the response of an earlier one. -/
def Obligations.ResponseIsNeverReadBack : Prop :=
  ∀ (i : Instr) (s : State) (r : Option Response), exec i { s with resp := r } = exec i s

/-- R29: while a valid bit is 0, no command but GETST reads the elements behind it: with other values there, the
command ends in the same state, response, transactions and every other element of the block included, but for those
elements themselves, which are as they were in each run unless the command wrote them, alike in both. -/
def Obligations.ElementsBehindAClearedValidBitAreNotRead : Prop :=
  ∀ (i : Instr) (s t : State), s.blk.Inv → i ≠ .getst → exec i s = .next t →
    (∀ a, s.blk.addrv = false →
      exec i { s with blk := { s.blk with addr := a } } = .next t ∨
      (t.blk.addr = s.blk.addr ∧
        exec i { s with blk := { s.blk with addr := a } } = .next { t with blk := { t.blk with addr := a } })) ∧
    (∀ cal ilsb plsb cfg, s.blk.calv = false →
      exec i { s with blk := { s.blk with cal := cal, ilsb := ilsb, plsb := plsb, cfg := cfg } } = .next t ∨
      ((t.blk.cal = s.blk.cal ∧ t.blk.ilsb = s.blk.ilsb ∧ t.blk.plsb = s.blk.plsb ∧ t.blk.cfg = s.blk.cfg) ∧
        exec i { s with blk := { s.blk with cal := cal, ilsb := ilsb, plsb := plsb, cfg := cfg } } =
          .next { t with blk := { t.blk with cal := cal, ilsb := ilsb, plsb := plsb, cfg := cfg } }))

/-- R94: INIT.A brings an UNINIT block to READY when both writes go through, and stops at the first failure, which
it returns: CONFIGURE's (refused calibration inputs, a failed Calibration write, a failed Config write) leaves the
block in LOCATED; LOCATEA's (an address out of range, a block that is closed or already located) leaves it as it
was. After a failure nothing further is issued. -/
def Obligations.InitSequenceBringsReadyOrStops : Prop :=
  ∀ (s : State) (addr : BusAddr) (shunt imax : BitVec 16) (brng : BitVec 1) (pg : BitVec 2) (badc sadc : BitVec 4)
    (mode : BitVec 3),
    (s.blk.fsm = .uninit → InBusRange addr →
      ConfiguresAndEnables (initA addr shunt imax brng pg badc sadc mode s) s [] addr shunt imax
        (cfgNumber brng pg badc sadc mode)) ∧
    (¬ InBusRange addr →
      initA addr shunt imax brng pg badc sadc mode s = .next (s.afterCommand [] (.err .illegalCommandError 5#64))) ∧
    (InBusRange addr → s.blk.fsm = .closed →
      initA addr shunt imax brng pg badc sadc mode s = .next (s.afterCommand [] (.err .driverClosedError 0#64))) ∧
    (InBusRange addr → Driving s.blk →
      initA addr shunt imax brng pg badc sadc mode s =
        .next (s.afterCommand [] (.err .wrongStateError (BitVec.ofNat 64 (fsmNumber s.blk.fsm)))))

/-- R94: INIT.P does the same at the first acknowledging address: READY when both writes go through, LOCATED with
CONFIGURE's failure returned when it fails. It stops at LOCATEP's failure: no address acknowledges, the block still
in UNINIT; or the block is closed or already located, and nothing is issued. -/
def Obligations.InitByProbingBringsReadyOrStops : Prop :=
  ∀ (s : State) (shunt imax : BitVec 16) (brng : BitVec 1) (pg : BitVec 2) (badc sadc : BitVec 4) (mode : BitVec 3),
    (∀ n < 116, s.blk.fsm = .uninit → SilentBelow s n → AcksAt s n →
      ConfiguresAndEnables (initP shunt imax brng pg badc sadc mode s) s
        (silentScan n ++ [.quick (BitVec.ofNat 7 (3 + n)) .ack]) (BitVec.ofNat 7 (3 + n)) shunt imax
        (cfgNumber brng pg badc sadc mode)) ∧
    (s.blk.fsm = .uninit → SilentBelow s 116 →
      initP shunt imax brng pg badc sadc mode s =
        .next (s.afterCommand (silentScan 116) (.err .deviceNotFoundError 0#64))) ∧
    (s.blk.fsm = .closed →
      initP shunt imax brng pg badc sadc mode s = .next (s.afterCommand [] (.err .driverClosedError 0#64))) ∧
    (Driving s.blk →
      initP shunt imax brng pg badc sadc mode s =
        .next (s.afterCommand [] (.err .wrongStateError (BitVec.ofNat 64 (fsmNumber s.blk.fsm)))))

/-- R94: RDSHUNT gives the signed count of the ShuntVoltage word, RDCFG the field codes of the Config word; a
failed read is what they return (log entry 17). -/
def Obligations.RdshuntAndRdcfgDecodeTheWordRead : Prop :=
  ∀ (s : State) (b0 b1 : Byte) (k : FailKind), Driving s.blk →
    (s.answer (.read s.blk.addr 1#8) = .ok b0 b1 →
      ∃ t, rdshunt s = .next t ∧ t.blk = s.blk ∧
        t.resp = some (.ok (BitVec.ofInt 64 (signed (BitVec.ofNat 16 (b0.toNat * 256 + b1.toNat)))) 0#32 0#32)) ∧
    (s.answer (.read s.blk.addr 0#8) = .ok b0 b1 →
      ∃ t u, rdcfg s = .next t ∧ exec (.deccfg (BitVec.ofNat 16 (b0.toNat * 256 + b1.toNat))) s = .next u ∧
        t.blk = s.blk ∧ t.resp = u.resp) ∧
    (s.answer (.read s.blk.addr 1#8) = .fail k →
      ∃ t, rdshunt s = .next t ∧ t.resp = some (.err .busIOError (busInfo k 0))) ∧
    (s.answer (.read s.blk.addr 0#8) = .fail k →
      ∃ t, rdcfg s = .next t ∧ t.resp = some (.err .busIOError (busInfo k 0)))

/-- R125: `CfgNamed` holds exactly when both ADC codes are among the eleven named ones. The code table is the
spec's general knowledge: log entry 15. -/
def Obligations.CfgNamedIsTheElevenAdcCodes : Prop :=
  ∀ c : CfgFields, cfgNamed c = true ↔
    c.badc.toNat ∈ [0, 1, 2, 3, 9, 10, 11, 12, 13, 14, 15] ∧ c.sadc.toNat ∈ [0, 1, 2, 3, 9, 10, 11, 12, 13, 14, 15]
end

