-- ==== Sys2Proof/Laws/State.lean ====
section
/-! SUPPORT. What each update of the state does to each field, one lemma per field per update, and the same
for the block's state. All true by rfl; no later proof unfolds a record update.
-/

namespace Sys2Proof.Machine

/-! ### respond -/

@[simp] theorem State.respond_blk (s : State) (r : Response) : (s.respond r).blk = s.blk := rfl
@[simp] theorem State.respond_resp (s : State) (r : Response) : (s.respond r).resp = some r := rfl
@[simp] theorem State.respond_txns (s : State) (r : Response) : (s.respond r).txns = s.txns := rfl
@[simp] theorem State.respond_past (s : State) (r : Response) : (s.respond r).past = s.past := rfl
@[simp] theorem State.respond_env (s : State) (r : Response) : (s.respond r).env = s.env := rfl
@[simp] theorem State.respond_port (s : State) (r : Response) : (s.respond r).port = s.port := rfl

/-! ### ok -/

@[simp] theorem State.ok_blk (s : State) (r0 : BitVec 64) (r1 r2 : BitVec 32) : (s.ok r0 r1 r2).blk = s.blk := rfl
@[simp] theorem State.ok_resp (s : State) (r0 : BitVec 64) (r1 r2 : BitVec 32) : (s.ok r0 r1 r2).resp = some (.ok r0 r1 r2) := rfl
@[simp] theorem State.ok_txns (s : State) (r0 : BitVec 64) (r1 r2 : BitVec 32) : (s.ok r0 r1 r2).txns = s.txns := rfl
@[simp] theorem State.ok_past (s : State) (r0 : BitVec 64) (r1 r2 : BitVec 32) : (s.ok r0 r1 r2).past = s.past := rfl
@[simp] theorem State.ok_env (s : State) (r0 : BitVec 64) (r1 r2 : BitVec 32) : (s.ok r0 r1 r2).env = s.env := rfl
@[simp] theorem State.ok_port (s : State) (r0 : BitVec 64) (r1 r2 : BitVec 32) : (s.ok r0 r1 r2).port = s.port := rfl

/-! ### raise -/

@[simp] theorem State.raise_blk (s : State) (f : Failure) : (s.raise f).blk = s.blk := rfl
@[simp] theorem State.raise_resp (s : State) (f : Failure) : (s.raise f).resp = some (.err f.status f.einfo) := rfl
@[simp] theorem State.raise_txns (s : State) (f : Failure) : (s.raise f).txns = s.txns := rfl
@[simp] theorem State.raise_past (s : State) (f : Failure) : (s.raise f).past = s.past := rfl
@[simp] theorem State.raise_env (s : State) (f : Failure) : (s.raise f).env = s.env := rfl
@[simp] theorem State.raise_port (s : State) (f : Failure) : (s.raise f).port = s.port := rfl

/-! ### beginCommand -/

@[simp] theorem State.beginCommand_blk (s : State) : (s.beginCommand).blk = s.blk := rfl
@[simp] theorem State.beginCommand_resp (s : State) : (s.beginCommand).resp = none := rfl
@[simp] theorem State.beginCommand_txns (s : State) : (s.beginCommand).txns = [] := rfl
@[simp] theorem State.beginCommand_past (s : State) : (s.beginCommand).past = s.past ++ s.txns := rfl
@[simp] theorem State.beginCommand_env (s : State) : (s.beginCommand).env = s.env := rfl
@[simp] theorem State.beginCommand_port (s : State) : (s.beginCommand).port = s.port := rfl

/-! ### withBlk -/

@[simp] theorem State.withBlk_blk (s : State) (b : Block) : (s.withBlk b).blk = b := rfl
@[simp] theorem State.withBlk_resp (s : State) (b : Block) : (s.withBlk b).resp = s.resp := rfl
@[simp] theorem State.withBlk_txns (s : State) (b : Block) : (s.withBlk b).txns = s.txns := rfl
@[simp] theorem State.withBlk_past (s : State) (b : Block) : (s.withBlk b).past = s.past := rfl
@[simp] theorem State.withBlk_env (s : State) (b : Block) : (s.withBlk b).env = s.env := rfl
@[simp] theorem State.withBlk_port (s : State) (b : Block) : (s.withBlk b).port = s.port := rfl

/-! ### record -/

@[simp] theorem State.record_blk (s : State) (t : Txn) : (s.record t).blk = s.blk := rfl
@[simp] theorem State.record_resp (s : State) (t : Txn) : (s.record t).resp = s.resp := rfl
@[simp] theorem State.record_txns (s : State) (t : Txn) : (s.record t).txns = s.txns ++ [t] := rfl
@[simp] theorem State.record_past (s : State) (t : Txn) : (s.record t).past = s.past := rfl
@[simp] theorem State.record_env (s : State) (t : Txn) : (s.record t).env = s.env.tail := rfl
@[simp] theorem State.record_port (s : State) (t : Txn) : (s.record t).port = s.port := rfl

/-! ### takeInput -/

@[simp] theorem State.takeInput_blk (s : State) : (s.takeInput).blk = s.blk := rfl
@[simp] theorem State.takeInput_resp (s : State) : (s.takeInput).resp = s.resp := rfl
@[simp] theorem State.takeInput_txns (s : State) : (s.takeInput).txns = s.txns := rfl
@[simp] theorem State.takeInput_past (s : State) : (s.takeInput).past = s.past := rfl
@[simp] theorem State.takeInput_env (s : State) : (s.takeInput).env = s.env := rfl
@[simp] theorem State.takeInput_port (s : State) : (s.takeInput).port = s.port.tail := rfl

/-! ### resetBlock -/

@[simp] theorem State.resetBlock_blk (s : State) : (s.resetBlock).blk = Block.reset := rfl
@[simp] theorem State.resetBlock_resp (s : State) : (s.resetBlock).resp = none := rfl
@[simp] theorem State.resetBlock_txns (s : State) : (s.resetBlock).txns = [] := rfl
@[simp] theorem State.resetBlock_past (s : State) : (s.resetBlock).past = s.past ++ s.txns := rfl
@[simp] theorem State.resetBlock_env (s : State) : (s.resetBlock).env = s.env := rfl
@[simp] theorem State.resetBlock_port (s : State) : (s.resetBlock).port = s.port := rfl

/-! ### afterCommand -/

@[simp] theorem State.afterCommand_blk (s : State) (ts : List Txn) (r : Response) : (s.afterCommand ts r).blk = s.blk := rfl
@[simp] theorem State.afterCommand_resp (s : State) (ts : List Txn) (r : Response) : (s.afterCommand ts r).resp = some r := rfl
@[simp] theorem State.afterCommand_txns (s : State) (ts : List Txn) (r : Response) : (s.afterCommand ts r).txns = ts := rfl
@[simp] theorem State.afterCommand_past (s : State) (ts : List Txn) (r : Response) : (s.afterCommand ts r).past = s.past ++ s.txns := rfl
@[simp] theorem State.afterCommand_env (s : State) (ts : List Txn) (r : Response) : (s.afterCommand ts r).env = s.env.drop ts.length := rfl
@[simp] theorem State.afterCommand_port (s : State) (ts : List Txn) (r : Response) : (s.afterCommand ts r).port = s.port := rfl

/-! ### Block.commitShadow -/

@[simp] theorem Block.commitShadow_fsm (b : Block) (cs : CalState) (w : Word) : (b.commitShadow cs w).fsm = b.fsm := rfl
@[simp] theorem Block.commitShadow_addrv (b : Block) (cs : CalState) (w : Word) : (b.commitShadow cs w).addrv = b.addrv := rfl
@[simp] theorem Block.commitShadow_addr (b : Block) (cs : CalState) (w : Word) : (b.commitShadow cs w).addr = b.addr := rfl
@[simp] theorem Block.commitShadow_calv (b : Block) (cs : CalState) (w : Word) : (b.commitShadow cs w).calv = true := rfl
@[simp] theorem Block.commitShadow_cal (b : Block) (cs : CalState) (w : Word) : (b.commitShadow cs w).cal = cs.cal := rfl
@[simp] theorem Block.commitShadow_ilsb (b : Block) (cs : CalState) (w : Word) : (b.commitShadow cs w).ilsb = cs.ilsb := rfl
@[simp] theorem Block.commitShadow_plsb (b : Block) (cs : CalState) (w : Word) : (b.commitShadow cs w).plsb = cs.plsb := rfl
@[simp] theorem Block.commitShadow_cfg (b : Block) (cs : CalState) (w : Word) : (b.commitShadow cs w).cfg = w := rfl

/-! ### Block.withFsm -/

@[simp] theorem Block.withFsm_fsm (b : Block) (f : Fsm) : (b.withFsm f).fsm = f := rfl
@[simp] theorem Block.withFsm_addrv (b : Block) (f : Fsm) : (b.withFsm f).addrv = b.addrv := rfl
@[simp] theorem Block.withFsm_addr (b : Block) (f : Fsm) : (b.withFsm f).addr = b.addr := rfl
@[simp] theorem Block.withFsm_calv (b : Block) (f : Fsm) : (b.withFsm f).calv = b.calv := rfl
@[simp] theorem Block.withFsm_cal (b : Block) (f : Fsm) : (b.withFsm f).cal = b.cal := rfl
@[simp] theorem Block.withFsm_ilsb (b : Block) (f : Fsm) : (b.withFsm f).ilsb = b.ilsb := rfl
@[simp] theorem Block.withFsm_plsb (b : Block) (f : Fsm) : (b.withFsm f).plsb = b.plsb := rfl
@[simp] theorem Block.withFsm_cfg (b : Block) (f : Fsm) : (b.withFsm f).cfg = b.cfg := rfl

/-! ### Block.locate -/

@[simp] theorem Block.locate_fsm (b : Block) (a : BusAddr) : (b.locate a).fsm = .located := rfl
@[simp] theorem Block.locate_addrv (b : Block) (a : BusAddr) : (b.locate a).addrv = true := rfl
@[simp] theorem Block.locate_addr (b : Block) (a : BusAddr) : (b.locate a).addr = a := rfl
@[simp] theorem Block.locate_calv (b : Block) (a : BusAddr) : (b.locate a).calv = b.calv := rfl
@[simp] theorem Block.locate_cal (b : Block) (a : BusAddr) : (b.locate a).cal = b.cal := rfl
@[simp] theorem Block.locate_ilsb (b : Block) (a : BusAddr) : (b.locate a).ilsb = b.ilsb := rfl
@[simp] theorem Block.locate_plsb (b : Block) (a : BusAddr) : (b.locate a).plsb = b.plsb := rfl
@[simp] theorem Block.locate_cfg (b : Block) (a : BusAddr) : (b.locate a).cfg = b.cfg := rfl

end Sys2Proof.Machine
end

