-- ==== Sys2Proof/Laws/Ops.lean ====
section
/-! SUPPORT. What the shared operations do, said once each: the environment's answers along a command, the
framed read and write, the scan, the calibration, the commit of both registers and the prologue.
-/

namespace Sys2Proof.Machine

/-! ### The environment's answers -/

@[simp] theorem State.history_beginCommand (s : State) : s.beginCommand.history = s.history := by
  simp [State.history]

@[simp] theorem State.history_record (s : State) (t : Txn) : (s.record t).history = s.history ++ [t] := by
  simp [State.history]

/-- Taking a command does not change what the environment answers. -/
@[simp] theorem State.answerAfter_beginCommand (s : State) (ts : List Txn) (q : Request) :
    s.beginCommand.answerAfter ts q = s.answerAfter ts q := by
  simp [State.answerAfter]

@[simp] theorem State.answer_beginCommand (s : State) (q : Request) : s.beginCommand.answer q = s.answer q := by
  simp [State.answer]

/-- The answers after one recorded transaction are the answers one transaction later. -/
@[simp] theorem State.answerAfter_record (s : State) (t : Txn) (ts : List Txn) (q : Request) :
    (s.record t).answerAfter ts q = s.answerAfter (t :: ts) q := by
  simp [State.answerAfter, State.history_record, List.append_assoc, List.drop_tail]

@[simp] theorem State.answer_record (s : State) (t : Txn) (q : Request) :
    (s.record t).answer q = s.answerAfter [t] q := by
  simp [State.answer]

/-! ### The framed read and write -/

theorem memRead_of_ok {r : RegNum} {s : State} {b0 b1 : Byte} (next : Word → State → State)
    (h : s.answer (.read s.blk.addr r) = .ok b0 b1) :
    memRead r s next = next (be16 b0 b1) (s.record (.read s.blk.addr r (.ok b0 b1))) := by
  simp [memRead, busRead, h, readOutcome]

theorem memRead_of_fail {r : RegNum} {s : State} {k : FailKind} (next : Word → State → State)
    (h : s.answer (.read s.blk.addr r) = .fail k) :
    memRead r s next = (s.record (.read s.blk.addr r (.fail k))).raise (.busIO k s.txns.length) := by
  simp [memRead, busRead, h, readOutcome]

/-- Everything a framed read can do: one transaction, and then the word or the failure. -/
theorem memRead_cases (r : RegNum) (s : State) (next : Word → State → State) :
    (∃ b0 b1, s.answer (.read s.blk.addr r) = .ok b0 b1 ∧
      memRead r s next = next (be16 b0 b1) (s.record (.read s.blk.addr r (.ok b0 b1)))) ∨
    (∃ k, s.answer (.read s.blk.addr r) = .fail k ∧
      memRead r s next = (s.record (.read s.blk.addr r (.fail k))).raise (.busIO k s.txns.length)) := by
  cases h : s.answer (.read s.blk.addr r) with
  | ok b0 b1 => exact .inl ⟨b0, b1, rfl, memRead_of_ok next h⟩
  | fail k => exact .inr ⟨k, rfl, memRead_of_fail next h⟩

theorem memWrite_of_ok {r : RegNum} {v : Word} {s : State} {b0 b1 : Byte} (next : State → State)
    (h : s.answer (.write s.blk.addr r (hiByte v) (loByte v)) = .ok b0 b1) :
    memWrite r v s next = next (s.record (.write s.blk.addr r (hiByte v) (loByte v) .ok)) := by
  simp [memWrite, busWrite, h, writeOutcome]

theorem memWrite_of_fail {r : RegNum} {v : Word} {s : State} {k : FailKind} (next : State → State)
    (h : s.answer (.write s.blk.addr r (hiByte v) (loByte v)) = .fail k) :
    memWrite r v s next =
      (s.record (.write s.blk.addr r (hiByte v) (loByte v) (.fail k))).raise (.busIO k s.txns.length) := by
  simp [memWrite, busWrite, h, writeOutcome]

/-- Everything a framed write can do. -/
theorem memWrite_cases (r : RegNum) (v : Word) (s : State) (next : State → State) :
    (∃ b0 b1, s.answer (.write s.blk.addr r (hiByte v) (loByte v)) = .ok b0 b1 ∧
      memWrite r v s next = next (s.record (.write s.blk.addr r (hiByte v) (loByte v) .ok))) ∨
    (∃ k, s.answer (.write s.blk.addr r (hiByte v) (loByte v)) = .fail k ∧
      memWrite r v s next =
        (s.record (.write s.blk.addr r (hiByte v) (loByte v) (.fail k))).raise (.busIO k s.txns.length)) := by
  cases h : s.answer (.write s.blk.addr r (hiByte v) (loByte v)) with
  | ok b0 b1 => exact .inl ⟨b0, b1, rfl, memWrite_of_ok next h⟩
  | fail k => exact .inr ⟨k, rfl, memWrite_of_fail next h⟩

/-! ### The scan -/

/-- A run of quick writes at the addresses `as` that none acknowledges. -/
def silentAt (as : List BusAddr) : List Txn := as.map (fun a => .quick a .noack)

/-- `s` after the transactions `ts`, their answers used up. -/
def State.recordAll (s : State) (ts : List Txn) : State := ts.foldl State.record s

@[simp] theorem State.recordAll_nil (s : State) : s.recordAll [] = s := rfl

@[simp] theorem State.recordAll_cons (s : State) (t : Txn) (ts : List Txn) :
    s.recordAll (t :: ts) = (s.record t).recordAll ts := rfl

/-- Recording changes the transaction list and the coming answers and nothing else. -/
theorem State.recordAll_eq (s : State) (ts : List Txn) :
    s.recordAll ts = { s with txns := s.txns ++ ts, env := s.env.drop ts.length } := by
  induction ts generalizing s with
  | nil => simp
  | cons t ts ih => simp [ih, State.record]

/-- Everything a scan can do: it finds the first acknowledging address after silence, or finds none. -/
theorem scan_cases (as : List BusAddr) (s : State) (found : BusAddr → State → State) (notFound : State → State) :
    (∃ before a after, as = before ++ a :: after ∧
      quickOutcome (s.answerAfter (silentAt before) (.quick a)) = .ack ∧
      scan as s found notFound = found a ((s.recordAll (silentAt before)).record (.quick a .ack))) ∨
    scan as s found notFound = notFound (s.recordAll (silentAt as)) := by
  induction as generalizing s with
  | nil => exact .inr rfl
  | cons a as ih =>
    cases h : quickOutcome (s.answer (.quick a)) with
    | ack => exact .inl ⟨[], a, as, rfl, h, by simp [scan, busQuick, h, silentAt]⟩
    | noack =>
      have hs : scan (a :: as) s found notFound = scan as (s.record (.quick a .noack)) found notFound := by
        simp [scan, busQuick, h]
      rw [hs]
      obtain ⟨before, b, after, rfl, hb, he⟩ | he := ih (s.record (.quick a .noack))
      · exact .inl ⟨a :: before, b, after, rfl, by simpa [silentAt] using hb, by simpa [silentAt] using he⟩
      · exact .inr (by simpa [silentAt] using he)

/-! ### The calibration -/

/-- Everything `ComputeCal` can do for a given current LSB. -/
theorem computeCalFor_cases (lsb shunt imax : BitVec 16) :
    ((shunt = 0#16 ∨ imax = 0#16) ∧ computeCalFor lsb shunt imax = .error .zeroInput) ∨
    (¬(shunt = 0#16 ∨ imax = 0#16) ∧ 65535 < Config.calNum / (lsb.toNat * shunt.toNat) ∧
      computeCalFor lsb shunt imax = .error .quotientTooBig) ∨
    (¬(shunt = 0#16 ∨ imax = 0#16) ∧ Config.calNum / (lsb.toNat * shunt.toNat) ≤ 65535 ∧
      computeCalFor lsb shunt imax = .ok
        { cal := BitVec.ofNat 16 (Config.calNum / (lsb.toNat * shunt.toNat)), ilsb := lsb,
          plsb := BitVec.ofNat 24 (Config.plsbRatio * lsb.toNat) }) := by
  by_cases hz : shunt = 0#16 ∨ imax = 0#16
  · exact .inl ⟨hz, by simp [computeCalFor, hz]⟩
  · by_cases hq : Config.calNum / (lsb.toNat * shunt.toNat) > 65535
    · exact .inr (.inl ⟨hz, hq, by simp [computeCalFor, hz, hq]⟩)
    · exact .inr (.inr ⟨hz, Nat.le_of_not_lt hq, by simp [computeCalFor, hz, hq]⟩)

theorem computeCal_eq (shunt imax : BitVec 16) (brng : BitVec 1) (pg : BitVec 2) (badc sadc : BitVec 4) :
    computeCal shunt imax brng pg badc sadc = computeCalFor 100#16 shunt imax := rfl

/-! ### The prologue -/

/-- Everything the prologue can do: the body runs, or one of three failures is the response. -/
theorem prologue_cases (i : Instr) (body : State → State) (s : State) :
    (operandFault i = none ∧ allowed s.blk i = true ∧ ¬(needsHandle i = true ∧ s.blk.fsm = .closed) ∧
      prologue i body s = body s) ∨
    ∃ f, prologue i body s = s.raise f := by
  cases hf : operandFault i with
  | some sub => exact .inr ⟨.illegalCommand sub, by simp [prologue, hf]⟩
  | none =>
    by_cases hc : needsHandle i = true ∧ s.blk.fsm = .closed
    · exact .inr ⟨.driverClosed, by simp [prologue, hf, hc]⟩
    · by_cases ha : allowed s.blk i = true
      · exact .inl ⟨rfl, ha, hc, by simp [prologue, hf, hc, ha]⟩
      · exact .inr ⟨.wrongState s.blk.fsm, by simp [prologue, hf, hc, ha]⟩

/-- A command always answers a next state, the prologue's. -/
theorem runCommand_eq (i : Instr) (body : State → State) (s : State) :
    runCommand i body s = .next (prologue i body s.beginCommand) := rfl

end Sys2Proof.Machine
end

