-- ==== Sys2Proof/Laws/PerInstr.lean ====
section
/-! SUPPORT. Statements made per instruction: its command word carries its own opcode (30_encoding.md
R75), every bit its format does not name is zero (R72), its operands are read back from it (R73). The round
trip of the encoding rests on them.
-/

namespace Sys2Proof.Laws

/-- The opcode of a command word is its mnemonic's. -/
theorem opField_commandWord (m : Mnemonic) (a : BitVec 24) (b : BitVec 32) :
    opField (commandWord m a b) = m.opcode := by
  apply BitVec.eq_of_getLsbD_eq
  intro j hj
  interval_cases j <;> simp [opField, commandWord]

namespace EncodesUnderItsOpcode

/-- The command word of `i` carries the opcode of its mnemonic. -/
def Statement (i : Instr) : Prop := opField (encode i) = i.mnemonic.opcode

theorem rdw (reg : RegNum) : Statement (.rdw reg) :=
  opField_commandWord _ _ _

theorem wrw (reg : RegNum) (val : Word) : Statement (.wrw reg val) :=
  opField_commandWord _ _ _

theorem probe : Statement .probe :=
  opField_commandWord _ _ _

theorem enccfg (brng : BitVec 1) (pg : BitVec 2) (badc sadc : BitVec 4) (mode : BitVec 3) : Statement (.enccfg brng pg badc sadc mode) :=
  opField_commandWord _ _ _

theorem deccfg (raw : Word) : Statement (.deccfg raw) :=
  opField_commandWord _ _ _

theorem decs16 (raw : Word) : Statement (.decs16 raw) :=
  opField_commandWord _ _ _

theorem decbv (raw : Word) : Statement (.decbv raw) :=
  opField_commandWord _ _ _

theorem cvti (raw : Word) (scale : BitVec 24) : Statement (.cvti raw scale) :=
  opField_commandWord _ _ _

theorem cvtv (count : BitVec 13) : Statement (.cvtv count) :=
  opField_commandWord _ _ _

theorem cvtp (raw : Word) (scale : BitVec 24) : Statement (.cvtp raw scale) :=
  opField_commandWord _ _ _

theorem calcCal (shunt imax : BitVec 16) (brng : BitVec 1) (pg : BitVec 2) (badc sadc : BitVec 4) : Statement (.calcCal shunt imax brng pg badc sadc) :=
  opField_commandWord _ _ _

theorem locatea (addr : BusAddr) : Statement (.locatea addr) :=
  opField_commandWord _ _ _

theorem locatep : Statement .locatep :=
  opField_commandWord _ _ _

theorem configure (shunt imax : BitVec 16) (brng : BitVec 1) (pg : BitVec 2) (badc sadc : BitVec 4) (mode : BitVec 3) : Statement (.configure shunt imax brng pg badc sadc mode) :=
  opField_commandWord _ _ _

theorem enable : Statement .enable :=
  opField_commandWord _ _ _

theorem rdcur : Statement .rdcur :=
  opField_commandWord _ _ _

theorem rdvbus : Statement .rdvbus :=
  opField_commandWord _ _ _

theorem rdpwr : Statement .rdpwr :=
  opField_commandWord _ _ _

theorem reconf (shunt imax : BitVec 16) (brng : BitVec 1) (pg : BitVec 2) (badc sadc : BitVec 4) (mode : BitVec 3) : Statement (.reconf shunt imax brng pg badc sadc mode) :=
  opField_commandWord _ _ _

theorem close : Statement .close :=
  opField_commandWord _ _ _

theorem getst : Statement .getst :=
  opField_commandWord _ _ _

theorem getcal : Statement .getcal :=
  opField_commandWord _ _ _

end EncodesUnderItsOpcode

namespace EncodesZeroInUnnamedBits

/-- The bits the format of `i` does not name are zero in its command word. -/
def Statement (i : Instr) : Prop := encode i &&& i.mnemonic.format.mustBeZero = 0#64

theorem rdw (reg : RegNum) : Statement (.rdw reg) := by
  unfold Statement
  apply BitVec.eq_of_getLsbD_eq
  intro j hj
  interval_cases j <;> simp [encode, commandWord, Mnemonic.opcode, Instr.mnemonic, Mnemonic.format, Format.mustBeZero]

theorem wrw (reg : RegNum) (val : Word) : Statement (.wrw reg val) := by
  unfold Statement
  apply BitVec.eq_of_getLsbD_eq
  intro j hj
  interval_cases j <;> simp [encode, commandWord, Mnemonic.opcode, Instr.mnemonic, Mnemonic.format, Format.mustBeZero]

theorem probe : Statement .probe := by
  unfold Statement
  decide

theorem enccfg (brng : BitVec 1) (pg : BitVec 2) (badc sadc : BitVec 4) (mode : BitVec 3) : Statement (.enccfg brng pg badc sadc mode) := by
  unfold Statement
  apply BitVec.eq_of_getLsbD_eq
  intro j hj
  interval_cases j <;> simp [encode, commandWord, packFs, Mnemonic.opcode, Instr.mnemonic, Mnemonic.format, Format.mustBeZero]

theorem deccfg (raw : Word) : Statement (.deccfg raw) := by
  unfold Statement
  apply BitVec.eq_of_getLsbD_eq
  intro j hj
  interval_cases j <;> simp [encode, commandWord, Mnemonic.opcode, Instr.mnemonic, Mnemonic.format, Format.mustBeZero]

theorem decs16 (raw : Word) : Statement (.decs16 raw) := by
  unfold Statement
  apply BitVec.eq_of_getLsbD_eq
  intro j hj
  interval_cases j <;> simp [encode, commandWord, Mnemonic.opcode, Instr.mnemonic, Mnemonic.format, Format.mustBeZero]

theorem decbv (raw : Word) : Statement (.decbv raw) := by
  unfold Statement
  apply BitVec.eq_of_getLsbD_eq
  intro j hj
  interval_cases j <;> simp [encode, commandWord, Mnemonic.opcode, Instr.mnemonic, Mnemonic.format, Format.mustBeZero]

theorem cvti (raw : Word) (scale : BitVec 24) : Statement (.cvti raw scale) := by
  unfold Statement
  apply BitVec.eq_of_getLsbD_eq
  intro j hj
  interval_cases j <;> simp [encode, commandWord, Mnemonic.opcode, Instr.mnemonic, Mnemonic.format, Format.mustBeZero]

theorem cvtv (count : BitVec 13) : Statement (.cvtv count) := by
  unfold Statement
  apply BitVec.eq_of_getLsbD_eq
  intro j hj
  interval_cases j <;> simp [encode, commandWord, Mnemonic.opcode, Instr.mnemonic, Mnemonic.format, Format.mustBeZero]

theorem cvtp (raw : Word) (scale : BitVec 24) : Statement (.cvtp raw scale) := by
  unfold Statement
  apply BitVec.eq_of_getLsbD_eq
  intro j hj
  interval_cases j <;> simp [encode, commandWord, Mnemonic.opcode, Instr.mnemonic, Mnemonic.format, Format.mustBeZero]

theorem calcCal (shunt imax : BitVec 16) (brng : BitVec 1) (pg : BitVec 2) (badc sadc : BitVec 4) : Statement (.calcCal shunt imax brng pg badc sadc) := by
  unfold Statement
  apply BitVec.eq_of_getLsbD_eq
  intro j hj
  interval_cases j <;> simp [encode, commandWord, packFs, packInputs, Mnemonic.opcode, Instr.mnemonic, Mnemonic.format, Format.mustBeZero]

theorem locatea (addr : BusAddr) : Statement (.locatea addr) := by
  unfold Statement
  apply BitVec.eq_of_getLsbD_eq
  intro j hj
  interval_cases j <;> simp [encode, commandWord, Mnemonic.opcode, Instr.mnemonic, Mnemonic.format, Format.mustBeZero]

theorem locatep : Statement .locatep := by
  unfold Statement
  decide

theorem configure (shunt imax : BitVec 16) (brng : BitVec 1) (pg : BitVec 2) (badc sadc : BitVec 4) (mode : BitVec 3) : Statement (.configure shunt imax brng pg badc sadc mode) := by
  unfold Statement
  apply BitVec.eq_of_getLsbD_eq
  intro j hj
  interval_cases j <;> simp [encode, commandWord, packFs, packInputs, Mnemonic.opcode, Instr.mnemonic, Mnemonic.format, Format.mustBeZero]

theorem enable : Statement .enable := by
  unfold Statement
  decide

theorem rdcur : Statement .rdcur := by
  unfold Statement
  decide

theorem rdvbus : Statement .rdvbus := by
  unfold Statement
  decide

theorem rdpwr : Statement .rdpwr := by
  unfold Statement
  decide

theorem reconf (shunt imax : BitVec 16) (brng : BitVec 1) (pg : BitVec 2) (badc sadc : BitVec 4) (mode : BitVec 3) : Statement (.reconf shunt imax brng pg badc sadc mode) := by
  unfold Statement
  apply BitVec.eq_of_getLsbD_eq
  intro j hj
  interval_cases j <;> simp [encode, commandWord, packFs, packInputs, Mnemonic.opcode, Instr.mnemonic, Mnemonic.format, Format.mustBeZero]

theorem close : Statement .close := by
  unfold Statement
  decide

theorem getst : Statement .getst := by
  unfold Statement
  decide

theorem getcal : Statement .getcal := by
  unfold Statement
  decide

end EncodesZeroInUnnamedBits

namespace ReadsItsOperandsBack

/-- The operand fields of the command word of `i` are the operands of `i`. -/
def Statement (i : Instr) : Prop := readOperands i.mnemonic (encode i) = i

theorem rdw (reg : RegNum) : Statement (.rdw reg) := by
  simp only [Statement, readOperands, Instr.mnemonic, Instr.rdw.injEq]
  apply BitVec.eq_of_getLsbD_eq
  intro j hj
  interval_cases j <;> simp [encode, commandWord, Mnemonic.opcode]

theorem wrw (reg : RegNum) (val : Word) : Statement (.wrw reg val) := by
  simp only [Statement, readOperands, Instr.mnemonic, Instr.wrw.injEq]
  refine ⟨?_, ?_⟩ <;>
  · apply BitVec.eq_of_getLsbD_eq
    intro j hj
    interval_cases j <;> simp [encode, commandWord, Mnemonic.opcode]

theorem probe : Statement .probe := rfl

theorem enccfg (brng : BitVec 1) (pg : BitVec 2) (badc sadc : BitVec 4) (mode : BitVec 3) : Statement (.enccfg brng pg badc sadc mode) := by
  simp only [Statement, readOperands, Instr.mnemonic, Instr.enccfg.injEq]
  refine ⟨?_, ?_, ?_, ?_, ?_⟩ <;>
  · apply BitVec.eq_of_getLsbD_eq
    intro j hj
    interval_cases j <;> simp [encode, commandWord, packFs, Mnemonic.opcode]

theorem deccfg (raw : Word) : Statement (.deccfg raw) := by
  simp only [Statement, readOperands, Instr.mnemonic, Instr.deccfg.injEq]
  apply BitVec.eq_of_getLsbD_eq
  intro j hj
  interval_cases j <;> simp [encode, commandWord, Mnemonic.opcode]

theorem decs16 (raw : Word) : Statement (.decs16 raw) := by
  simp only [Statement, readOperands, Instr.mnemonic, Instr.decs16.injEq]
  apply BitVec.eq_of_getLsbD_eq
  intro j hj
  interval_cases j <;> simp [encode, commandWord, Mnemonic.opcode]

theorem decbv (raw : Word) : Statement (.decbv raw) := by
  simp only [Statement, readOperands, Instr.mnemonic, Instr.decbv.injEq]
  apply BitVec.eq_of_getLsbD_eq
  intro j hj
  interval_cases j <;> simp [encode, commandWord, Mnemonic.opcode]

theorem cvti (raw : Word) (scale : BitVec 24) : Statement (.cvti raw scale) := by
  simp only [Statement, readOperands, Instr.mnemonic, Instr.cvti.injEq]
  refine ⟨?_, ?_⟩ <;>
  · apply BitVec.eq_of_getLsbD_eq
    intro j hj
    interval_cases j <;> simp [encode, commandWord, Mnemonic.opcode]

theorem cvtv (count : BitVec 13) : Statement (.cvtv count) := by
  simp only [Statement, readOperands, Instr.mnemonic, Instr.cvtv.injEq]
  apply BitVec.eq_of_getLsbD_eq
  intro j hj
  interval_cases j <;> simp [encode, commandWord, Mnemonic.opcode]

theorem cvtp (raw : Word) (scale : BitVec 24) : Statement (.cvtp raw scale) := by
  simp only [Statement, readOperands, Instr.mnemonic, Instr.cvtp.injEq]
  refine ⟨?_, ?_⟩ <;>
  · apply BitVec.eq_of_getLsbD_eq
    intro j hj
    interval_cases j <;> simp [encode, commandWord, Mnemonic.opcode]

theorem calcCal (shunt imax : BitVec 16) (brng : BitVec 1) (pg : BitVec 2) (badc sadc : BitVec 4) : Statement (.calcCal shunt imax brng pg badc sadc) := by
  simp only [Statement, readOperands, Instr.mnemonic, Instr.calcCal.injEq]
  refine ⟨?_, ?_, ?_, ?_, ?_, ?_⟩ <;>
  · apply BitVec.eq_of_getLsbD_eq
    intro j hj
    interval_cases j <;> simp [encode, commandWord, packFs, packInputs, Mnemonic.opcode]

theorem locatea (addr : BusAddr) : Statement (.locatea addr) := by
  simp only [Statement, readOperands, Instr.mnemonic, Instr.locatea.injEq]
  apply BitVec.eq_of_getLsbD_eq
  intro j hj
  interval_cases j <;> simp [encode, commandWord, Mnemonic.opcode]

theorem locatep : Statement .locatep := rfl

theorem configure (shunt imax : BitVec 16) (brng : BitVec 1) (pg : BitVec 2) (badc sadc : BitVec 4) (mode : BitVec 3) : Statement (.configure shunt imax brng pg badc sadc mode) := by
  simp only [Statement, readOperands, Instr.mnemonic, Instr.configure.injEq]
  refine ⟨?_, ?_, ?_, ?_, ?_, ?_, ?_⟩ <;>
  · apply BitVec.eq_of_getLsbD_eq
    intro j hj
    interval_cases j <;> simp [encode, commandWord, packFs, packInputs, Mnemonic.opcode]

theorem enable : Statement .enable := rfl

theorem rdcur : Statement .rdcur := rfl

theorem rdvbus : Statement .rdvbus := rfl

theorem rdpwr : Statement .rdpwr := rfl

theorem reconf (shunt imax : BitVec 16) (brng : BitVec 1) (pg : BitVec 2) (badc sadc : BitVec 4) (mode : BitVec 3) : Statement (.reconf shunt imax brng pg badc sadc mode) := by
  simp only [Statement, readOperands, Instr.mnemonic, Instr.reconf.injEq]
  refine ⟨?_, ?_, ?_, ?_, ?_, ?_, ?_⟩ <;>
  · apply BitVec.eq_of_getLsbD_eq
    intro j hj
    interval_cases j <;> simp [encode, commandWord, packFs, packInputs, Mnemonic.opcode]

theorem close : Statement .close := rfl

theorem getst : Statement .getst := rfl

theorem getcal : Statement .getcal := rfl

end ReadsItsOperandsBack

/-! The other direction: a word with the opcode of `m` and zero in every bit its format does not name is
determined by its operand fields. -/

/-- The command word with opcode `m` whose operand fields, in format `f`, are those of `w`. -/
def formatWord (f : Format) (m : Mnemonic) (w : CmdWord) : CmdWord :=
  match f with
  | .Z => commandWord m 0#24 0#32
  | .W => commandWord m 0#24 ((w.extractLsb' 0 16).setWidth 32)
  | .V => commandWord m 0#24 ((w.extractLsb' 0 13).setWidth 32)
  | .S => commandWord m (w.extractLsb' 32 24) ((w.extractLsb' 0 16).setWidth 32)
  | .F => commandWord m 0#24 ((packFs (w.extractLsb' 16 1) (w.extractLsb' 12 2) (w.extractLsb' 8 4)
      (w.extractLsb' 4 4) (w.extractLsb' 0 3)).setWidth 32)
  | .RR => commandWord m ((w.extractLsb' 32 8).setWidth 24) 0#32
  | .RW => commandWord m ((w.extractLsb' 32 8).setWidth 24) ((w.extractLsb' 0 16).setWidth 32)
  | .L => commandWord m ((w.extractLsb' 32 7).setWidth 24) 0#32
  | .C => commandWord m ((packFs (w.extractLsb' 48 1) (w.extractLsb' 44 2) (w.extractLsb' 40 4)
      (w.extractLsb' 36 4) (w.extractLsb' 32 3)).setWidth 24) (packInputs (w.extractLsb' 16 16) (w.extractLsb' 0 16))
  | .K => commandWord m ((packFs (w.extractLsb' 48 1) (w.extractLsb' 44 2) (w.extractLsb' 40 4)
      (w.extractLsb' 36 4) 0#3).setWidth 24) (packInputs (w.extractLsb' 16 16) (w.extractLsb' 0 16))

/-- A word with the opcode of `m` and zero in every bit format `f` does not name is its operand fields laid out. -/
def WordOfItsFields (f : Format) : Prop :=
  ∀ (m : Mnemonic) (w : CmdWord), opField w = m.opcode → w &&& f.mustBeZero = 0#64 → formatWord f m w = w

theorem wordOfItsFields_Z : WordOfItsFields .Z := by
  intro m w ho hz
  apply BitVec.eq_of_getLsbD_eq
  intro j hj
  have hzj := congrArg (fun v => v.getLsbD j) hz
  simp only [formatWord, commandWord, ← ho, opField, Format.mustBeZero] at hzj ⊢
  interval_cases j <;> simp_all

theorem wordOfItsFields_W : WordOfItsFields .W := by
  intro m w ho hz
  apply BitVec.eq_of_getLsbD_eq
  intro j hj
  have hzj := congrArg (fun v => v.getLsbD j) hz
  simp only [formatWord, commandWord, ← ho, opField, Format.mustBeZero] at hzj ⊢
  interval_cases j <;> simp_all

theorem wordOfItsFields_V : WordOfItsFields .V := by
  intro m w ho hz
  apply BitVec.eq_of_getLsbD_eq
  intro j hj
  have hzj := congrArg (fun v => v.getLsbD j) hz
  simp only [formatWord, commandWord, ← ho, opField, Format.mustBeZero] at hzj ⊢
  interval_cases j <;> simp_all

theorem wordOfItsFields_S : WordOfItsFields .S := by
  intro m w ho hz
  apply BitVec.eq_of_getLsbD_eq
  intro j hj
  have hzj := congrArg (fun v => v.getLsbD j) hz
  simp only [formatWord, commandWord, ← ho, opField, Format.mustBeZero] at hzj ⊢
  interval_cases j <;> simp_all

theorem wordOfItsFields_F : WordOfItsFields .F := by
  intro m w ho hz
  apply BitVec.eq_of_getLsbD_eq
  intro j hj
  have hzj := congrArg (fun v => v.getLsbD j) hz
  simp only [formatWord, commandWord, ← ho, opField, Format.mustBeZero] at hzj ⊢
  interval_cases j <;> simp_all [packFs]

theorem wordOfItsFields_RR : WordOfItsFields .RR := by
  intro m w ho hz
  apply BitVec.eq_of_getLsbD_eq
  intro j hj
  have hzj := congrArg (fun v => v.getLsbD j) hz
  simp only [formatWord, commandWord, ← ho, opField, Format.mustBeZero] at hzj ⊢
  interval_cases j <;> simp_all

theorem wordOfItsFields_RW : WordOfItsFields .RW := by
  intro m w ho hz
  apply BitVec.eq_of_getLsbD_eq
  intro j hj
  have hzj := congrArg (fun v => v.getLsbD j) hz
  simp only [formatWord, commandWord, ← ho, opField, Format.mustBeZero] at hzj ⊢
  interval_cases j <;> simp_all

theorem wordOfItsFields_L : WordOfItsFields .L := by
  intro m w ho hz
  apply BitVec.eq_of_getLsbD_eq
  intro j hj
  have hzj := congrArg (fun v => v.getLsbD j) hz
  simp only [formatWord, commandWord, ← ho, opField, Format.mustBeZero] at hzj ⊢
  interval_cases j <;> simp_all

theorem wordOfItsFields_C : WordOfItsFields .C := by
  intro m w ho hz
  apply BitVec.eq_of_getLsbD_eq
  intro j hj
  have hzj := congrArg (fun v => v.getLsbD j) hz
  simp only [formatWord, commandWord, ← ho, opField, Format.mustBeZero] at hzj ⊢
  interval_cases j <;> simp_all [packFs, packInputs]

theorem wordOfItsFields_K : WordOfItsFields .K := by
  intro m w ho hz
  apply BitVec.eq_of_getLsbD_eq
  intro j hj
  have hzj := congrArg (fun v => v.getLsbD j) hz
  simp only [formatWord, commandWord, ← ho, opField, Format.mustBeZero] at hzj ⊢
  interval_cases j <;> simp_all [packFs, packInputs]

theorem formatWord_eq (f : Format) : WordOfItsFields f := by
  cases f
  · exact wordOfItsFields_Z
  · exact wordOfItsFields_W
  · exact wordOfItsFields_V
  · exact wordOfItsFields_S
  · exact wordOfItsFields_F
  · exact wordOfItsFields_RR
  · exact wordOfItsFields_RW
  · exact wordOfItsFields_L
  · exact wordOfItsFields_C
  · exact wordOfItsFields_K

/-- Encoding the operands read from a word is laying out its operand fields in its format. -/
theorem encode_readOperands_eq_formatWord (m : Mnemonic) (w : CmdWord) :
    encode (readOperands m w) = formatWord m.format m w := by
  cases m <;> rfl

end Sys2Proof.Laws
end

