-- ==== Sys2Proof/Tests/Slice0.lean ====
section
/-! SUPPORT. Tests: what WellFormed refuses, words of every command written out from 30_encoding.md R72 and R75,
one step of every command against the vectors of 95_test_vectors.md (named in each comment), and for every
obligation with hypotheses a witness that meets them. Expected values are the spec's, not the model's.
-/

namespace Sys2Proof.Tests

open Sys2Proof.Machine Sys2Proof.Claims

/-! ### WellFormed refuses -/

theorem test_wellFormed_refuses_register_six : ¬ WellFormed (.rdw 6#8) := by decide
theorem test_wellFormed_refuses_write_to_read_only : ¬ WellFormed (.wrw 4#8 0#16) ∧ ¬ WellFormed (.wrw 1#8 0#16) := by
  decide
theorem test_wellFormed_refuses_address_outside : ¬ WellFormed (.locatea 0x02#7) ∧ ¬ WellFormed (.locatea 0x77#7) := by
  decide
theorem test_wellFormed_accepts_the_edges :
    WellFormed (.rdw 5#8) ∧ WellFormed (.wrw 5#8 0#16) ∧ WellFormed (.locatea 0x03#7) ∧ WellFormed (.locatea 0x76#7) := by
  decide

/-! ### Decoding: words of 95_test_vectors.md -/

/-- The instruction the decoder reads from a word. -/
abbrev decoded (w : CmdWord) : Option Instr := decodeTableWord 64 w.toNat

/-- The sub-code of an illegal word, if it is one. -/
def illegalSub (w : CmdWord) : Option IllegalSub :=
  match decode w with
  | .ok _ => none
  | .error sub => some sub

/-- V1.2, V1.8, V1.14. -/
theorem test_decode_family_1 :
    decoded 0x1000000400000000#64 = some (.rdw 4#8) ∧
    decoded 0x1100000500001000#64 = some (.wrw 5#8 0x1000#16) ∧
    decoded 0x1200000000000000#64 = some .probe := by decide

/-- V2.9, V2.15. -/
theorem test_decode_family_2 :
    decoded 0x20000000000019C5#64 = some (.enccfg 0#1 1#2 9#4 12#4 5#3) ∧
    decoded 0x210000000000399F#64 = some (.deccfg 0x399F#16) := by decide

/-- V3.3, V3.9. -/
theorem test_decode_family_3 :
    decoded 0x300000000000FFCE#64 = some (.decs16 0xFFCE#16) ∧
    decoded 0x3100000000001F41#64 = some (.decbv 0x1F41#16) := by decide

/-- V4.2, V4.12, P4 step 8, V4.29. -/
theorem test_decode_family_4 :
    decoded 0x400000640000FFCE#64 = some (.cvti 0xFFCE#16 100#24) ∧
    decoded 0x41000000000003E8#64 = some (.cvtv 1000#13) ∧
    decoded 0x420007D000000064#64 = some (.cvtp 0x0064#16 2000#24) ∧
    decoded 0x43001990002101F4#64 = some (.calcCal 33#16 500#16 0#1 1#2 9#4 9#4) := by decide

/-- V5.46, V5.42, V5.13, V5.17, V5.1. -/
theorem test_decode_family_5_driving :
    decoded 0x5000007600000000#64 = some (.locatea 0x76#7) ∧
    decoded 0x5100000000000000#64 = some .locatep ∧
    decoded 0x520019C5003203E8#64 = some (.configure 50#16 1000#16 0#1 1#2 9#4 12#4 5#3) ∧
    decoded 0x5300000000000000#64 = some .enable ∧
    decoded 0x5400000000000000#64 = some .rdcur := by decide

/-- V5.16, P2 step 5, V5.10, V5.34, V5.4, V5.3. -/
theorem test_decode_family_5_rest :
    decoded 0x5500000000000000#64 = some .rdvbus ∧
    decoded 0x5600000000000000#64 = some .rdpwr ∧
    decoded 0x57003337006407D0#64 = some (.reconf 100#16 2000#16 0#1 3#2 3#4 3#4 7#3) ∧
    decoded 0x5800000000000000#64 = some .close ∧
    decoded 0x5900000000000000#64 = some .getst ∧
    decoded 0x5A00000000000000#64 = some .getcal := by decide

/-- Section 2.6. -/
theorem test_decode_undefined_opcodes :
    illegalSub 0x0000000000000000#64 = some .undefinedOpcode ∧ illegalSub 0xFFFFFFFFFFFFFFFF#64 = some .undefinedOpcode ∧
    illegalSub 0x1300000000000000#64 = some .undefinedOpcode ∧ illegalSub 0x5B00000000000000#64 = some .undefinedOpcode := by
  decide

/-- V1.6, V2.11, V2.12, V2.13, V4.37, V5.7, V5.48. -/
theorem test_decode_must_be_zero :
    illegalSub 0x1000010000000000#64 = some .mustBeZero ∧ illegalSub 0x2000000000000008#64 = some .mustBeZero ∧
    illegalSub 0x2000000000004000#64 = some .mustBeZero ∧ illegalSub 0x2000000000020000#64 = some .mustBeZero ∧
    illegalSub 0x43013337006407D0#64 = some .mustBeZero ∧ illegalSub 0x5000008000000000#64 = some .mustBeZero ∧
    illegalSub 0x5400000100000000#64 = some .mustBeZero := by decide

/-- V1.5, V1.13, V1.11, V1.12, V5.5, V5.6. -/
theorem test_decode_bad_operands :
    illegalSub 0x100000FF00000000#64 = some .badRegister ∧ illegalSub 0x1100000600000000#64 = some .badRegister ∧
    illegalSub 0x1100000100001234#64 = some .readOnlyRegister ∧
    illegalSub 0x1100000400000000#64 = some .readOnlyRegister ∧
    illegalSub 0x5000000200000000#64 = some .badAddress ∧ illegalSub 0x5000007700000000#64 = some .badAddress := by decide

/-- P1 step 2: the encoder gives the spec's word. -/
theorem test_encode_configure :
    encode (.configure 100#16 2000#16 1#1 3#2 3#4 3#4 7#3) = 0x52013337006407D0#64 := by decide

/-! ### One step of each command -/

/-- A machine whose block is in state `b` and whose environment answers `env`. -/
def machine (b : Block) (env : List Answer) : State := { State.reset with blk := b, env := env }

/-- One step on the word `w`: the response, the transactions and the block's state after it. -/
def run (w : Nat) (b : Block) (env : List Answer) : Option (Option Response × List Txn × Block) :=
  match step ((machine b env).withFetchWord 64 w) with
  | .next t => some (t.resp, t.txns, t.blk)
  | .fault _ => none
  | .refused _ => none

/-- `OK(r0, r1, r2)`. -/
abbrev okResp (r0 : BitVec 64) (r1 r2 : BitVec 32) : Option Response := some (.ok r0 r1 r2)

/-- The reset state S0. -/
def s0 : Block := Block.reset

/-- (LOCATED, 1, 0x45, 0, 0, 0, 0, 0). -/
def located : Block := { s0 with fsm := .located, addrv := true, addr := 0x45#7 }

/-- (CONFIGURED, 1, 0x45, 1, 8192, 100, 2000, 0x0CE5), after V5.13. -/
def configured : Block :=
  { located with fsm := .configured, calv := true, cal := 8192#16, ilsb := 100#16, plsb := 2000#24, cfg := 0x0CE5#16 }

/-- The same in READY, after V5.17. -/
def ready : Block := { configured with fsm := .ready }

/-- The same in CLOSED. -/
def closed : Block := { configured with fsm := .closed }

/-- An answer that acknowledges; its bytes are not looked at by a write or a quick write. -/
def ack : Answer := .ok 0#8 0#8

/-- An answer that does not. -/
def nack : Answer := .fail .noack

/-- V1.2. -/
theorem test_rdw_is_unsigned : run 0x1000000400000000 located [.ok 0x80#8 0x00#8] =
    some (okResp 0x8000#64 0#32 0#32, [.read 0x45#7 4#8 (.ok 0x80#8 0x00#8)], located) := by decide
/-- V1.3. -/
theorem test_rdw_failure : run 0x1000000500000000 located [.fail .timeout] =
    some (some (.err .busIOError 0x0002#64), [.read 0x45#7 5#8 (.fail .timeout)], located) := by decide
/-- V1.8. -/
theorem test_wrw_high_byte_first : run 0x1100000500001000 located [ack] =
    some (okResp 0#64 0#32 0#32, [.write 0x45#7 5#8 0x10#8 0x00#8 .ok], located) := by decide
/-- V5.33, in the state after V5.17. -/
theorem test_wrw_leaves_the_shadow : run 0x1100000000008000 ready [ack] =
    some (okResp 0#64 0#32 0#32, [.write 0x45#7 0#8 0x80#8 0x00#8 .ok], ready) := by decide
/-- V1.14. -/
theorem test_probe_stops_at_first : run 0x1200000000000000 s0 [ack] =
    some (okResp 3#64 1#32 0#32, [.quick 0x03#7 .ack], s0) := by decide
/-- V1.16, shortened to a timeout at 0x03 and an acknowledgment at 0x04. -/
theorem test_probe_folds_timeout : run 0x1200000000000000 s0 [.fail .timeout, ack] =
    some (okResp 4#64 1#32 0#32, [.quick 0x03#7 .noack, .quick 0x04#7 .ack], s0) := by decide

/-- V2.9, in CLOSED. -/
theorem test_enccfg_offsets : run 0x20000000000019C5 closed [] = some (okResp 0x0CE5#64 0#32 0#32, [], closed) := by
  decide
/-- V2.10: unnamed ADC codes are accepted. -/
theorem test_enccfg_unnamed_codes : run 0x2000000000012483 s0 [] = some (okResp 0x3243#64 0#32 0#32, [], s0) := by decide
/-- V2.16. -/
theorem test_deccfg_all_ones : run 0x210000000000FFFF s0 [] = some (okResp 0x13FF7#64 3#32 0#32, [], s0) := by decide
/-- E1. -/
theorem test_deccfg_fields : run 0x2100000000000CE5 s0 [] = some (okResp 0x019C5#64 0#32 0#32, [], s0) := by decide
/-- E2. -/
theorem test_decs16_most_negative : run 0x3000000000008000 s0 [] =
    some (okResp 0xFFFFFFFFFFFF8000#64 0#32 0#32, [], s0) := by decide
/-- E2. -/
theorem test_decs16_most_positive : run 0x3000000000007FFF s0 [] = some (okResp 32767#64 0#32 0#32, [], s0) := by decide
/-- E3. -/
theorem test_decbv_ready : run 0x3100000000001F42 s0 [] = some (okResp 4000#64 1#32 0#32, [], s0) := by decide
/-- V3.9 (overflow is R2) and so not V3.8. -/
theorem test_decbv_overflow : run 0x3100000000001F41 s0 [] = some (okResp 4000#64 0#32 1#32, [], s0) := by decide
/-- V4.8. -/
theorem test_cvti_most_negative : run 0x40FFFFFF00008000 s0 [] =
    some (okResp 0xFFFFFF8000008000#64 0#32 0#32, [], s0) := by decide
/-- V4.9. -/
theorem test_cvti_largest : run 0x40FFFFFF00007FFF s0 [] = some (okResp 0x7FFEFF8001#64 0#32 0#32, [], s0) := by decide
/-- V4.12. -/
theorem test_cvtv : run 0x41000000000003E8 s0 [] = some (okResp 4000#64 0#32 0#32, [], s0) := by decide
/-- P4 step 8. -/
theorem test_cvtp : run 0x420007D000000064 s0 [] = some (okResp 200000#64 0#32 0#32, [], s0) := by decide
/-- E4. -/
theorem test_calc_operating_point : run 0x43013330006407D0 s0 [] = some (okResp 4096#64 100#32 2000#32, [], s0) := by
  decide
/-- V4.27: truncated, not rounded. -/
theorem test_calc_truncates : run 0x4301333003E807D0 s0 [] = some (okResp 409#64 100#32 2000#32, [], s0) := by decide

/-- V5.8. -/
theorem test_locatea : run 0x5000004500000000 s0 [] = some (okResp 0x45#64 0#32 0#32, [], located) := by decide
/-- V5.15. -/
theorem test_locatea_once : run 0x5000004500000000 configured [] =
    some (some (.err .wrongStateError 2#64), [], configured) := by decide
/-- As V5.44, with the acknowledgments at 0x04 and beyond. -/
theorem test_locatep_takes_first : run 0x5100000000000000 s0 [nack, ack, ack] =
    some (okResp 4#64 1#32 0#32, [.quick 0x03#7 .noack, .quick 0x04#7 .ack],
      { s0 with fsm := .located, addrv := true, addr := 0x04#7 }) := by decide
/-- V5.42. -/
theorem test_locatep_none : (run 0x5100000000000000 s0 (List.replicate 116 nack)).map (fun x => (x.1, x.2.1.length, x.2.2)) =
    some (some (.err .deviceNotFoundError 0#64), 116, s0) := by decide +kernel
/-- V5.13. -/
theorem test_configure : run 0x520019C5003203E8 located [ack, ack] =
    some (okResp 0x0CE5#64 8192#32 0#32,
      [.write 0x45#7 5#8 0x20#8 0x00#8 .ok, .write 0x45#7 0#8 0x0C#8 0xE5#8 .ok], configured) := by decide
/-- P3 step 2, at 0x45. -/
theorem test_configure_second_write_fails : run 0x52013337006407D0 located [ack, nack] =
    some (some (.err .busIOError 0x0101#64),
      [.write 0x45#7 5#8 0x10#8 0x00#8 .ok, .write 0x45#7 0#8 0x39#8 0x9F#8 (.fail .noack)], located) := by decide
/-- V5.17. -/
theorem test_enable : run 0x5300000000000000 configured [] = some (okResp 0#64 0#32 0#32, [], ready) := by decide
/-- V5.18. -/
theorem test_enable_once : run 0x5300000000000000 ready [] = some (some (.err .wrongStateError 3#64), [], ready) := by
  decide
/-- V5.23. -/
theorem test_rdcur : run 0x5400000000000000 ready [.ok 0x80#8 0x00#8] =
    some (okResp 0xFFFFFFFFFFCE0000#64 0#32 0#32, [.read 0x45#7 4#8 (.ok 0x80#8 0x00#8)], ready) := by decide
/-- V5.19. -/
theorem test_rdvbus_retries_once : run 0x5500000000000000 ready [.ok 0x1F#8 0x40#8, .ok 0x1F#8 0x44#8, ack] =
    some (okResp 4000#64 0#32 0#32,
      [.read 0x45#7 2#8 (.ok 0x1F#8 0x40#8), .read 0x45#7 2#8 (.ok 0x1F#8 0x44#8)], ready) := by decide
/-- V5.22. -/
theorem test_rdvbus_second_read_fails : run 0x5500000000000000 ready [.ok 0x1F#8 0x40#8, .fail .arblost] =
    some (some (.err .busIOError 0x0103#64),
      [.read 0x45#7 2#8 (.ok 0x1F#8 0x40#8), .read 0x45#7 2#8 (.fail .arblost)], ready) := by decide
/-- V5.25. -/
theorem test_rdpwr : run 0x5600000000000000 ready [.ok 0xFF#8 0xFF#8] =
    some (okResp 131070000#64 0#32 0#32, [.read 0x45#7 3#8 (.ok 0xFF#8 0xFF#8)], ready) := by decide
/-- V5.29. -/
theorem test_reconf : run 0x57003337006407D0 ready [ack, ack] =
    some (okResp 0x199F#64 4096#32 0#32,
      [.write 0x45#7 5#8 0x10#8 0x00#8 .ok, .write 0x45#7 0#8 0x19#8 0x9F#8 .ok],
      { ready with cal := 4096#16, cfg := 0x199F#16 }) := by decide
/-- V5.27. -/
theorem test_reconf_second_write_fails : run 0x57003337006407D0 ready [ack, .fail .other] =
    some (some (.err .busIOError 0x0104#64),
      [.write 0x45#7 5#8 0x10#8 0x00#8 .ok, .write 0x45#7 0#8 0x19#8 0x9F#8 (.fail .other)], ready) := by decide
/-- V5.34, in the state after V5.17. -/
theorem test_close : run 0x5800000000000000 ready [] = some (okResp 0#64 0#32 0#32, [], closed) := by decide
/-- V5.35. -/
theorem test_close_once : run 0x5800000000000000 closed [] = some (some (.err .driverClosedError 0#64), [], closed) := by
  decide
/-- V5.28. -/
theorem test_getst : run 0x5900000000000000 ready [] = some (okResp 3#64 0xC5#32 0x10CE5#32, [], ready) := by decide
/-- V5.39, with the shadow of V5.13. -/
theorem test_getcal_in_closed : run 0x5A00000000000000 closed [] =
    some (okResp 8192#64 100#32 2000#32, [], closed) := by decide
/-- V5.47. -/
theorem test_getcal_uncalibrated : run 0x5A00000000000000 { s0 with fsm := .closed } [] =
    some (some (.err .wrongStateError 4#64), [], { s0 with fsm := .closed }) := by decide
/-- V5.41: illegal is tested before closed. -/
theorem test_illegal_before_closed : run 0x0000000000000000 closed [] =
    some (some (.err .illegalCommandError 1#64), [], closed) := by decide
/-- V5.37: closed is tested before the operands. -/
theorem test_closed_before_operands : run 0x5200000000000000 closed [] =
    some (some (.err .driverClosedError 0#64), [], closed) := by decide

/-- E6: `INIT.P` at an address that acknowledges, here 0x04. -/
theorem test_init_p :
    (match initP 100#16 2000#16 1#1 3#2 3#4 3#4 7#3 (machine s0 [nack, ack, ack, ack]) with
      | .next t => some (t.resp, t.blk)
      | _ => none) =
    some (okResp 0#64 0#32 0#32,
      { fsm := .ready, addrv := true, addr := 0x04#7, calv := true, cal := 4096#16, ilsb := 100#16, plsb := 2000#24,
        cfg := 0x399F#16 }) := by decide

/-- 30_encoding.md R93: the notation of P1 step 2. -/
theorem test_assembler_line :
    (assemble .configure [100, 2000, 1, 3, 3, 3, 7]).map encode = some 0x52013337006407D0#64 ∧
    (assemble .cvtv [8192]) = none ∧ (Instr.cvti 50#16 100#24).asmLine = "CVTI 50, 100" := by decide

/-! ### Witnesses: the hypotheses of each obligation can be met, clause by clause -/

/-- A machine to which the host presents `w`. -/
def presenting (w : CmdWord) (b : Block) (env : List Answer) : State := { machine b env with port := [.command w] }

/-- READY, CLOSED and reset blocks meet the invariant; so do LOCATED and CONFIGURED ones. -/
theorem witness_Block_Inv_driving : located.Inv ∧ configured.Inv ∧ ready.Inv := by
  refine ⟨?_, ?_, ?_⟩ <;> constructor <;> first | exact fun _ => ⟨50#16, by decide⟩ | decide

theorem witness_Block_Inv_ends : s0.Inv ∧ closed.Inv ∧ Block.Inv { s0 with fsm := .closed } := by
  refine ⟨?_, ?_, ?_⟩ <;> constructor <;> first | exact fun _ => ⟨50#16, by decide⟩ | decide

theorem witness_DecodeOfEncodeGivesInstructionBack :
    WellFormed (.rdw 5#8) ∧ WellFormed (.wrw 0#8 0xFFFF#16) ∧ WellFormed (.wrw 5#8 0#16) ∧ WellFormed (.locatea 0x03#7) ∧
    WellFormed (.locatea 0x76#7) ∧ WellFormed (.cvti 0x8000#16 0xFFFFFF#24) := by decide

theorem witness_EncodeOfDecodeGivesWordBack :
    decode 0x5000007600000000#64 = .ok (.locatea 0x76#7) ∧ decode 0x42FFFFFF0000FFFF#64 = .ok (.cvtp 0xFFFF#16 0xFFFFFF#24) :=
  ⟨rfl, rfl⟩

theorem witness_EveryWordIsOneCommandOrIllegal_opcode :
    ∀ row ∈ opcodeTable, (0x5B00000000000000#64).extractLsb' 56 8 ≠ row.2.2.extractLsb' 56 8 := by decide

theorem witness_EveryWordIsOneCommandOrIllegal_rows :
    (0x5000008000000000#64 &&& 0xFFFFFF80FFFFFFFF#64 ≠ 0x5000000000000000#64) ∧
    (0x1000000600000000#64 &&& 0xFFFFFF00FFFFFFFF#64 = 0x1000000000000000#64) ∧
    operandSub .rdw 0x1000000600000000#64 = some .badRegister ∧ operandSub .rdw 0x1000000500000000#64 = none ∧
    operandSub .wrw 0x1100000600000000#64 = some .badRegister ∧ operandSub .wrw 0x1100000500000000#64 = none ∧
    operandSub .wrw 0x1100000400000000#64 = some .readOnlyRegister ∧
    operandSub .wrw 0x1100000100000000#64 = some .readOnlyRegister ∧ operandSub .wrw 0x1100000000000000#64 = none ∧
    operandSub .locatea 0x5000000200000000#64 = some .badAddress ∧ operandSub .locatea 0x5000000300000000#64 = none ∧
    operandSub .locatea 0x5000007600000000#64 = none ∧ operandSub .locatea 0x5000007700000000#64 = some .badAddress := by
  decide

theorem witness_EveryWordIsOneCommandOrIllegal_step :
    Presents (presenting 0x1000000600000000#64 ready []) 0x1000000600000000#64 ∧
    decode 0x1000000600000000#64 = .error .badRegister := ⟨rfl, rfl⟩

theorem witness_StepRunsThePresentedCommand :
    Presents (presenting 0x5400000000000000#64 ready [ack]) 0x5400000000000000#64 ∧
    decode 0x5400000000000000#64 = .ok .rdcur := ⟨rfl, rfl⟩

theorem witness_IdleBlockStaysAsItIs : (machine ready [ack]).port = [] := rfl

theorem witness_ResetInputClearsBlockWithoutBus :
    (({ machine ready [ack] with port := [.rst] } : State)).port.head? = some .rst := rfl

/-- A word with the opcode of ENABLE that breaks its pattern (the second part of `HasPattern`). -/
theorem witness_HasPattern :
    (0x5300000000000001#64).extractLsb' 56 8 = (0x5300000000000000#64).extractLsb' 56 8 ∧
    0x5300000000000001#64 &&& 0xFFFFFFFFFFFFFFFF#64 ≠ 0x5300000000000000#64 := by decide

theorem witness_RdwReadsOneRegisterWord :
    ((5#8).toNat ≤ 5 ∧ Driving located ∧ (machine located [.ok 0x39#8 0x9F#8]).answer (.read 0x45#7 5#8) = .ok 0x39#8 0x9F#8) ∧
    (Driving ready ∧ (machine ready [.fail .other]).answer (.read 0x45#7 0#8) = .fail .other) ∧
    5 < (6#8).toNat ∧ closed.fsm = .closed ∧ s0.fsm = .uninit := by decide

theorem witness_WrwWritesOneRegisterWord :
    (((5#8).toNat = 0 ∨ (5#8).toNat = 5) ∧ Driving configured ∧
      (machine configured [ack]).answer (writeRequest 0x45#7 5#8 0x1000) = .ok 0#8 0#8) ∧
    (((0#8).toNat = 0 ∨ (0#8).toNat = 5) ∧ Driving located ∧
      (machine located [.fail .noack]).answer (writeRequest 0x45#7 0#8 0x399F) = .fail .noack) ∧
    5 < (6#8).toNat ∧ (1 ≤ (1#8).toNat ∧ (1#8).toNat ≤ 4) ∧ (1 ≤ (4#8).toNat ∧ (4#8).toNat ≤ 4) ∧
    closed.fsm = .closed ∧ s0.fsm = .uninit := by decide

theorem witness_ProbeReturnsFirstAcknowledgingAddress_first :
    0 < 116 ∧ ready.fsm ≠ .closed ∧ SilentBelow (machine ready [ack]) 0 ∧ AcksAt (machine ready [ack]) 0 := by decide

theorem witness_ProbeReturnsFirstAcknowledgingAddress_last :
    115 < 116 ∧ s0.fsm ≠ .closed ∧ SilentBelow (machine s0 (List.replicate 115 nack ++ [ack])) 115 ∧
    AcksAt (machine s0 (List.replicate 115 nack ++ [ack])) 115 := by decide +kernel

theorem witness_ProbeReturnsFirstAcknowledgingAddress_none :
    s0.fsm ≠ .closed ∧ SilentBelow (machine s0 (List.replicate 116 nack)) 116 ∧ closed.fsm = .closed := by decide +kernel

theorem witness_ReadingDecoderLaws :
    ((0x0000#16).toNat < (0x7FFF#16).toNat ∧ ((0x7FFF#16).toNat ≤ 32767 ∨ 32768 ≤ (0x0000#16).toNat)) ∧
    ((0x8000#16).toNat < (0xFFFF#16).toNat ∧ ((0xFFFF#16).toNat ≤ 32767 ∨ 32768 ≤ (0x8000#16).toNat)) := by decide

/-- The smallest shunt whose quotient fits and the largest whose does not. -/
theorem witness_CalcReturnsCalibrationState :
    (7#16 ≠ 0#16 ∧ 2000#16 ≠ 0#16 ∧ quotient 7#16 ≤ 65535) ∧ ((0#16 = 0#16 ∨ 2000#16 = 0#16) ∧ (100#16 = 0#16 ∨ 0#16 = 0#16)) ∧
    (6#16 ≠ 0#16 ∧ 1#16 ≠ 0#16 ∧ 65535 < quotient 6#16) := by decide

theorem witness_CalibrationStateInvariants :
    1#16 ≠ 0#16 ∧ computeCalFor 1#16 65535#16 1#16 = .ok { cal := 625#16, ilsb := 1#16, plsb := 20#24 } := ⟨by decide, rfl⟩

theorem witness_LocateaResolvesTheAddress :
    InBusRange 0x03#7 ∧ InBusRange 0x76#7 ∧ ¬ InBusRange 0x02#7 ∧ ¬ InBusRange 0x77#7 ∧ s0.fsm = .uninit ∧
    closed.fsm = .closed ∧ Driving located := by decide

theorem witness_LocatepResolvesFirstAcknowledgingAddress_found :
    s0.fsm = .uninit ∧ SilentBelow (machine s0 (List.replicate 115 nack ++ [ack])) 115 ∧
    AcksAt (machine s0 (List.replicate 115 nack ++ [ack])) 115 ∧ SilentBelow (machine s0 [ack]) 0 ∧ AcksAt (machine s0 [ack]) 0 := by
  decide +kernel

theorem witness_LocatepResolvesFirstAcknowledgingAddress_none :
    s0.fsm = .uninit ∧ SilentBelow (machine s0 (List.replicate 116 nack)) 116 ∧ closed.fsm = .closed ∧ Driving ready := by
  decide +kernel

/-- The answers of `Reconfigures`: the first write fails, the second fails, both go through. -/
theorem witness_ConfigureWritesCalibrationThenConfig :
    located.fsm = .located ∧ closed.fsm = .closed ∧ s0.fsm = .uninit ∧ (0#16 = 0#16 ∨ 1#16 = 0#16) ∧
    65535 < quotient 6#16 ∧ quotient 7#16 ≤ 65535 ∧
    (machine located [.fail .timeout]).answer (writeRequest 0x45#7 5#8 (quotient 7#16)) = .fail .timeout ∧
    (machine located [ack, .fail .noack]).answer (writeRequest 0x45#7 5#8 (quotient 7#16)) = .ok 0#8 0#8 ∧
    (machine located [ack, .fail .noack]).answerAfter [writeTxn 0x45#7 5#8 (quotient 7#16) .ok]
      (writeRequest 0x45#7 0#8 0x399F) = .fail .noack ∧
    (machine located [ack, ack]).answerAfter [writeTxn 0x45#7 5#8 (quotient 7#16) .ok]
      (writeRequest 0x45#7 0#8 0x399F) = .ok 0#8 0#8 := by decide

theorem witness_EnableMarksTheDriverReady :
    configured.fsm = .configured ∧ closed.fsm = .closed ∧
    (s0.fsm = .uninit ∨ s0.fsm = .located ∨ s0.fsm = .ready) ∧ (ready.fsm = .uninit ∨ ready.fsm = .located ∨ ready.fsm = .ready) := by
  decide

theorem witness_RdcurScalesSignedCurrent :
    (ready.fsm = .ready ∧ (machine ready [.ok 0x80#8 0x00#8]).answer (.read 0x45#7 4#8) = .ok 0x80#8 0x00#8) ∧
    (machine ready [.fail .noack]).answer (.read 0x45#7 4#8) = .fail .noack ∧ closed.fsm = .closed ∧
    (configured.fsm = .uninit ∨ configured.fsm = .located ∨ configured.fsm = .configured) := by decide

theorem witness_RdvbusRetriesOnceWhenNotReady :
    (ready.fsm = .ready ∧ (machine ready [.ok 0x1F#8 0x43#8]).answer (.read 0x45#7 2#8) = .ok 0x1F#8 0x43#8 ∧
      (0x43#8).getLsbD 1 = true) ∧
    ((machine ready [.ok 0x1F#8 0x40#8, .ok 0x1F#8 0x44#8]).answer (.read 0x45#7 2#8) = .ok 0x1F#8 0x40#8 ∧
      (0x40#8).getLsbD 1 = false ∧
      (machine ready [.ok 0x1F#8 0x40#8, .ok 0x1F#8 0x44#8]).answerAfter [.read 0x45#7 2#8 (.ok 0x1F#8 0x40#8)]
        (.read 0x45#7 2#8) = .ok 0x1F#8 0x44#8) ∧
    (machine ready [.fail .timeout]).answer (.read 0x45#7 2#8) = .fail .timeout ∧
    (machine ready [.ok 0x1F#8 0x40#8, .fail .arblost]).answerAfter [.read 0x45#7 2#8 (.ok 0x1F#8 0x40#8)]
      (.read 0x45#7 2#8) = .fail .arblost ∧
    closed.fsm = .closed ∧ (located.fsm = .uninit ∨ located.fsm = .located ∨ located.fsm = .configured) := by decide

theorem witness_RdpwrScalesUnsignedPower :
    (ready.fsm = .ready ∧ (machine ready [.ok 0xFF#8 0xFF#8]).answer (.read 0x45#7 3#8) = .ok 0xFF#8 0xFF#8) ∧
    (machine ready [.fail .other]).answer (.read 0x45#7 3#8) = .fail .other ∧ closed.fsm = .closed ∧
    (s0.fsm = .uninit ∨ s0.fsm = .located ∨ s0.fsm = .configured) := by decide

theorem witness_ReconfRewritesBothRegisters :
    (configured.fsm = .configured ∨ configured.fsm = .ready) ∧ (ready.fsm = .configured ∨ ready.fsm = .ready) ∧
    closed.fsm = .closed ∧ (s0.fsm = .uninit ∨ s0.fsm = .located) ∧ (located.fsm = .uninit ∨ located.fsm = .located) ∧
    (machine ready [.fail .timeout]).answer (writeRequest 0x45#7 5#8 (quotient 100#16)) = .fail .timeout ∧
    (machine ready [ack, .fail .other]).answer (writeRequest 0x45#7 5#8 (quotient 100#16)) = .ok 0#8 0#8 ∧
    (machine ready [ack, .fail .other]).answerAfter [writeTxn 0x45#7 5#8 (quotient 100#16) .ok]
      (writeRequest 0x45#7 0#8 0x199F) = .fail .other ∧
    (machine ready [ack, ack]).answerAfter [writeTxn 0x45#7 5#8 (quotient 100#16) .ok]
      (writeRequest 0x45#7 0#8 0x199F) = .ok 0#8 0#8 := by decide

theorem witness_CloseGivesUpTheBus :
    ready.fsm ≠ .closed ∧ s0.fsm ≠ .closed ∧ closed.fsm = .closed ∧ WellFormed (.locatea 0x40#7) ∧
    (Instr.locatea 0x40#7).mnemonic ∉ pureCommands ∧ (Instr.locatea 0x40#7).mnemonic ≠ .getst ∧
    (Instr.locatea 0x40#7).mnemonic ≠ .getcal ∧ (Instr.decs16 0xFFCE#16).mnemonic ∈ pureCommands := by decide

theorem witness_GetcalReportsTheShadow : closed.calv = true ∧ located.calv = false := by decide

theorem witness_TypedReadsAreTheSourcesReals :
    ready.fsm = .ready ∧ ready.ilsb = 100#16 ∧ ready.plsb = 2000#24 ∧
    (machine ready [.ok 0x1F#8 0x42#8]).answer (.read 0x45#7 4#8) = .ok 0x1F#8 0x42#8 ∧
    (machine ready [.ok 0x1F#8 0x42#8]).answer (.read 0x45#7 3#8) = .ok 0x1F#8 0x42#8 ∧
    (machine ready [.ok 0x1F#8 0x42#8]).answer (.read 0x45#7 2#8) = .ok 0x1F#8 0x42#8 ∧ (0x42#8).getLsbD 1 = true := by decide

theorem witness_FailureLeavesNoTraceInTheBlock :
    ∃ t, exec .rdcur (machine ready [.fail .noack]) = .next t ∧ t.resp = some (.err .busIOError 1#64) := ⟨_, rfl, rfl⟩

theorem witness_StatesGateCommandsAsTabulated :
    WellFormed .rdcur ∧ permission ready.calv .rdcur ready.fsm = .runs ∧
    permission closed.calv .rdcur closed.fsm = .closedError ∧ permission located.calv .rdcur located.fsm = .wrongState ∧
    WellFormed .getcal ∧ permission closed.calv .getcal closed.fsm = .runs ∧
    permission false .getcal .closed = .wrongState := by decide

/-- One state and command for each clause: a failed first write, a failed second read; a second read. -/
theorem witness_FailedTransactionIsNeverRetried :
    (∃ t, exec (.reconf 100#16 1#16 0#1 0#2 0#4 0#4 0#3) (machine ready [nack, ack]) = .next t ∧
      ∃ x, t.txns = [] ++ x :: [] ∧ txnFailure x = some .noack) ∧
    (∃ t, exec .rdvbus (machine ready [.ok 0#8 0#8, .fail .arblost]) = .next t ∧
      ∃ y x, t.txns = [y] ++ x :: [] ∧ txnFailure x = some .arblost) ∧
    (∃ t, exec .rdvbus (machine ready [.ok 0#8 0#8, .ok 0#8 2#8]) = .next t ∧
      t.txns = [] ++ Txn.read 0x45#7 2#8 (.ok 0#8 0#8) :: [Txn.read 0x45#7 2#8 (.ok 0#8 2#8)]) :=
  ⟨⟨_, rfl, _, rfl, rfl⟩, ⟨_, rfl, _, _, rfl, rfl⟩, ⟨_, rfl, rfl⟩⟩

theorem witness_TransactionBudgetOfEachCommand :
    (∃ t, exec .rdvbus (machine ready [.ok 0#8 0#8, .ok 0#8 2#8]) = .next t ∧ t.txns.length = 2) ∧
    (∃ t, exec .probe (machine ready [ack]) = .next t ∧ Txn.quick 0x03#7 .ack ∈ t.txns) :=
  ⟨⟨_, rfl, rfl⟩, ⟨_, rfl, List.mem_singleton.2 rfl⟩⟩

theorem witness_FrameOfEveryCommand : ∃ t, exec .close (machine ready [ack]) = .next t := ⟨_, rfl⟩

theorem witness_TransactionsHappenInProgramOrder :
    (∃ t, step (machine ready [ack]) = .next t ∧ (machine ready [ack]).port = []) ∧
    (∃ t, step { machine ready [ack] with port := [.rst] } = .next t) ∧
    (∃ t, step (presenting 0x5400000000000000#64 ready [ack]) = .next t ∧
      HostInput.command 0x5400000000000000#64 ≠ .rst) := ⟨⟨_, rfl, rfl⟩, ⟨_, rfl⟩, ⟨_, rfl, by decide⟩⟩

theorem witness_OnlyTheListedTransitionsHappen : ∃ t, step (presenting 0x5000004500000000#64 s0 []) = .next t := ⟨_, rfl⟩

theorem witness_AddressIsWrittenOnlyAtLocating :
    s0.Inv ∧ ∃ t, step (presenting 0x5000007600000000#64 s0 []) = .next t ∧ t.blk.addr = 0x76#7 :=
  ⟨witness_Block_Inv_ends.1, _, rfl, rfl⟩

theorem witness_ShadowIsCommittedWholeOrNotAtAll :
    ∃ t, exec (.configure 50#16 1000#16 0#1 1#2 9#4 12#4 5#3) (machine located [ack, ack]) = .next t ∧ t.blk.calv = true :=
  ⟨_, rfl, rfl⟩

theorem witness_ClosedBlockIssuesNoTransaction :
    (presenting 0x5000004500000000#64 closed [ack]).blk.fsm = .closed ∧
    (presenting 0x5000004500000000#64 closed [ack]).port.head? ≠ some .rst ∧
    ∃ t, step (presenting 0x5000004500000000#64 closed [ack]) = .next t := ⟨rfl, by decide, _, rfl⟩

theorem witness_OnlyLegalTransactionsReachTheBus :
    ready.Inv ∧ ∃ t, step (presenting 0x5400000000000000#64 ready [ack]) = .next t ∧ t.txns ≠ [] :=
  ⟨witness_Block_Inv_driving.2.2, _, rfl, by decide⟩

theorem witness_EveryStepKeepsTheInvariant :
    located.Inv ∧ ∃ t, step (presenting 0x520019C5003203E8#64 located [ack, ack]) = .next t ∧ t.blk.calv = true :=
  ⟨witness_Block_Inv_driving.1, _, rfl, rfl⟩

theorem witness_PureCommandsDependOnNoState : (Instr.calcCal 0#16 0#16 0#1 0#2 0#4 0#4).mnemonic ∈ pureCommands := by decide

/-- For each clause a command that leaves the elements alone and one that writes them. -/
theorem witness_ElementsBehindAClearedValidBitAreNotRead :
    (s0.Inv ∧ s0.addrv = false ∧ s0.calv = false ∧ Instr.probe ≠ .getst ∧ Instr.locatea 0x76#7 ≠ .getst ∧
      (∃ t, exec .probe (machine s0 [ack]) = .next t) ∧ (∃ t, exec (.locatea 0x76#7) (machine s0 []) = .next t)) ∧
    (located.Inv ∧ located.calv = false ∧ Instr.rdw 0#8 ≠ .getst ∧
      Instr.configure 50#16 1000#16 0#1 1#2 9#4 12#4 5#3 ≠ .getst ∧
      (∃ t, exec (.rdw 0#8) (machine located [ack]) = .next t) ∧
      (∃ t, exec (.configure 50#16 1000#16 0#1 1#2 9#4 12#4 5#3) (machine located [ack, ack]) = .next t ∧
        t.blk.calv = true)) :=
  ⟨⟨witness_Block_Inv_ends.1, rfl, rfl, by decide, by decide, ⟨_, rfl⟩, ⟨_, rfl⟩⟩,
    ⟨witness_Block_Inv_driving.1, rfl, by decide, by decide, ⟨_, rfl⟩, ⟨_, rfl, rfl⟩⟩⟩

/-- The state and address clauses, at the edges of the range. -/
theorem witness_InitSequenceBringsReadyOrStops :
    s0.fsm = .uninit ∧ InBusRange 0x03#7 ∧ InBusRange 0x76#7 ∧ ¬ InBusRange 0x02#7 ∧ ¬ InBusRange 0x77#7 ∧
    closed.fsm = .closed ∧ Driving located ∧ Driving configured ∧ Driving ready := by decide

/-- The clauses of `ConfiguresAndEnables` after no transaction, at the edge of the quotient's range: refused inputs;
the first write fails; the second fails; both go through. -/
theorem witness_ConfiguresAndEnables :
    (0#16 = 0#16 ∨ 2000#16 = 0#16) ∧ (6#16 ≠ 0#16 ∧ 1#16 ≠ 0#16 ∧ 65535 < quotient 6#16) ∧
    (7#16 ≠ 0#16 ∧ 2000#16 ≠ 0#16 ∧ quotient 7#16 ≤ 65535) ∧
    (machine s0 [nack]).answerAfter [] (writeRequest 0x76#7 5#8 (quotient 7#16)) = .fail .noack ∧
    ((machine s0 [ack, nack]).answerAfter [] (writeRequest 0x76#7 5#8 (quotient 7#16)) = .ok 0#8 0#8 ∧
      (machine s0 [ack, nack]).answerAfter ([] ++ [writeTxn 0x76#7 5#8 (quotient 7#16) .ok])
        (writeRequest 0x76#7 0#8 (cfgNumber 1#1 3#2 3#4 3#4 7#3)) = .fail .noack) ∧
    ((machine s0 [ack, ack]).answerAfter [] (writeRequest 0x76#7 5#8 (quotient 7#16)) = .ok 0#8 0#8 ∧
      (machine s0 [ack, ack]).answerAfter ([] ++ [writeTxn 0x76#7 5#8 (quotient 7#16) .ok])
        (writeRequest 0x76#7 0#8 (cfgNumber 1#1 3#2 3#4 3#4 7#3)) = .ok 0#8 0#8) := by decide

/-- Found at the first address, the Calibration write failing; found at the second, the Config write failing or both
going through; nothing found; and the states that refuse. -/
theorem witness_InitByProbingBringsReadyOrStops :
    (s0.fsm = .uninit ∧ SilentBelow (machine s0 [ack, nack]) 0 ∧ AcksAt (machine s0 [ack, nack]) 0 ∧
      (machine s0 [ack, nack]).answerAfter (silentScan 0 ++ [.quick 0x03#7 .ack])
        (writeRequest 0x03#7 5#8 (quotient 7#16)) = .fail .noack) ∧
    (SilentBelow (machine s0 [nack, ack, ack, nack]) 1 ∧ AcksAt (machine s0 [nack, ack, ack, nack]) 1 ∧
      (machine s0 [nack, ack, ack, nack]).answerAfter (silentScan 1 ++ [.quick 0x04#7 .ack])
        (writeRequest 0x04#7 5#8 (quotient 7#16)) = .ok 0#8 0#8 ∧
      (machine s0 [nack, ack, ack, nack]).answerAfter
        (silentScan 1 ++ [.quick 0x04#7 .ack] ++ [writeTxn 0x04#7 5#8 (quotient 7#16) .ok])
        (writeRequest 0x04#7 0#8 (cfgNumber 1#1 3#2 3#4 3#4 7#3)) = .fail .noack) ∧
    (machine s0 [nack, ack, ack, ack]).answerAfter
      (silentScan 1 ++ [.quick 0x04#7 .ack] ++ [writeTxn 0x04#7 5#8 (quotient 7#16) .ok])
      (writeRequest 0x04#7 0#8 (cfgNumber 1#1 3#2 3#4 3#4 7#3)) = .ok 0#8 0#8 ∧
    SilentBelow (machine s0 (List.replicate 116 nack)) 116 ∧ closed.fsm = .closed ∧ Driving located := by decide +kernel

/-- 115 is the last number of silent addresses before one that acknowledges. -/
theorem witness_InitByProbingBringsReadyOrStops_last :
    115 < 116 ∧ SilentBelow (machine s0 (List.replicate 115 nack ++ [ack, nack])) 115 ∧
    AcksAt (machine s0 (List.replicate 115 nack ++ [ack, nack])) 115 ∧
    (machine s0 (List.replicate 115 nack ++ [ack, nack])).answerAfter (silentScan 115 ++ [.quick 0x76#7 .ack])
      (writeRequest 0x76#7 5#8 (quotient 7#16)) = .fail .noack := by decide +kernel

theorem witness_RdshuntAndRdcfgDecodeTheWordRead :
    Driving located ∧ (machine located [.ok 0x80#8 0#8]).answer (.read 0x45#7 1#8) = .ok 0x80#8 0#8 ∧
    (machine located [.ok 0x39#8 0x9F#8]).answer (.read 0x45#7 0#8) = .ok 0x39#8 0x9F#8 ∧
    (machine located [.fail .timeout]).answer (.read 0x45#7 1#8) = .fail .timeout ∧
    (machine located [.fail .timeout]).answer (.read 0x45#7 0#8) = .fail .timeout := by decide

end Sys2Proof.Tests
end

/-! The typed reads in READY (44_driver_sequencer.md R164 to R166): the whole next state of a read that the
bus answers, the numbers in its response, and what they stand for as the source's reals (00_scope.md R16). -/

namespace Sys2Proof.Machine

/-! ### A command that runs -/

/-- A command that needs the handle is allowed in CLOSED by no row of 44_driver_sequencer.md R171. -/
theorem not_closed_of_allowed {b : Block} {i : Instr} (ha : allowed b i = true) :
    ¬(needsHandle i = true ∧ b.fsm = .closed) := by
  rintro ⟨hn, hc⟩
  cases i <;> simp [allowed, needsHandle, hc] at ha hn

/-- A command without operand fault runs its body in a state that allows it. -/
theorem runCommand_of_allowed {i : Instr} {s : State} (body : State → State) (hf : operandFault i = none)
    (ha : allowed s.blk i = true) : runCommand i body s = .next (body s.beginCommand) := by
  simp [runCommand_eq, prologue, hf, ha, not_closed_of_allowed ha]

/-- A command that issued the one transaction `t`, wrote nothing and answered `r`. -/
theorem State.respond_record_beginCommand (s : State) (t : Txn) (r : Response) :
    (s.beginCommand.record t).respond r = s.afterCommand [t] r := by
  simp [State.respond, State.record, State.afterCommand, State.beginCommand]

/-- A framed read that opens a command. -/
theorem memRead_beginCommand_of_ok {r : RegNum} {s : State} {b0 b1 : Byte} (next : Word → State → State)
    (h : s.answer (.read s.blk.addr r) = .ok b0 b1) :
    memRead r s.beginCommand next =
      next (be16 b0 b1) (s.beginCommand.record (.read s.blk.addr r (.ok b0 b1))) :=
  memRead_of_ok next (by simpa using h)

/-! ### The next state of an answered typed read -/

theorem exec_rdcur_of_ok {s : State} {b0 b1 : Byte} (hr : s.blk.fsm = .ready)
    (h : s.answer (.read s.blk.addr 4#8) = .ok b0 b1) :
    exec .rdcur s = .next (s.afterCommand [.read s.blk.addr 4#8 (.ok b0 b1)]
      (.ok (tc64 (scaleCurrent (be16 b0 b1) s.blk.ilsb.toNat)) 0#32 0#32)) := by
  rw [← State.respond_record_beginCommand]
  calc exec .rdcur s
    _ = .next (memRead 4#8 s.beginCommand _) := runCommand_of_allowed _ rfl (by simp [allowed, hr])
    _ = _ := by rw [memRead_beginCommand_of_ok _ h]; rfl

theorem exec_rdpwr_of_ok {s : State} {b0 b1 : Byte} (hr : s.blk.fsm = .ready)
    (h : s.answer (.read s.blk.addr 3#8) = .ok b0 b1) :
    exec .rdpwr s = .next (s.afterCommand [.read s.blk.addr 3#8 (.ok b0 b1)]
      (.ok (zext64 (scalePower (be16 b0 b1) s.blk.plsb.toNat)) 0#32 0#32)) := by
  rw [← State.respond_record_beginCommand]
  calc exec .rdpwr s
    _ = .next (memRead 3#8 s.beginCommand _) := runCommand_of_allowed _ rfl (by simp [allowed, hr])
    _ = _ := by rw [memRead_beginCommand_of_ok _ h]; rfl

/-- The first word of RDVBUS is the reading when its conversion-ready bit is set. -/
theorem exec_rdvbus_of_ready_word {s : State} {b0 b1 : Byte} (hr : s.blk.fsm = .ready)
    (h : s.answer (.read s.blk.addr 2#8) = .ok b0 b1) (hc : conversionReady (be16 b0 b1) = true) :
    exec .rdvbus s = .next (s.afterCommand [.read s.blk.addr 2#8 (.ok b0 b1)]
      (.ok (zext64 (scaleBusVoltage (voltageCount (be16 b0 b1)))) 1#32
        (zext32 (mathOverflow (be16 b0 b1)).toNat))) := by
  rw [← State.respond_record_beginCommand]
  calc exec .rdvbus s
    _ = .next (memRead 2#8 s.beginCommand _) := runCommand_of_allowed _ rfl (by simp [allowed, hr])
    _ = _ := by
      rw [memRead_beginCommand_of_ok _ h, if_pos hc]
      simp [State.okBusVoltage, decodeBusVoltage, hc, State.ok, zext32]

/-! ### The numbers of a reading -/

theorem be16_toNat (b0 b1 : Byte) : (be16 b0 b1).toNat = b0.toNat * 256 + b1.toNat := by
  have h0 := b0.isLt
  have h1 := b1.isLt
  simp only [be16, BitVec.toNat_ofNat]
  omega

/-- Bit 1 of a word read is bit 1 of its second byte. -/
theorem conversionReady_be16 (b0 b1 : Byte) : conversionReady (be16 b0 b1) = b1.getLsbD 1 := by
  have hmod : (b0.toNat * 256 + b1.toNat) / 2 % 2 = b1.toNat / 2 % 2 := by omega
  simp [conversionReady, BitVec.getLsbD, Nat.testBit_eq_decide_div_mod_eq, be16_toNat, hmod]

theorem voltageCount_toNat (raw : Word) : (voltageCount raw).toNat = raw.toNat / 8 := by
  have h := raw.isLt
  simp only [voltageCount, BitVec.extractLsb'_toNat, Nat.shiftRight_eq_div_pow]
  omega

/-- A current product of a 16-bit word with a 24-bit scale fits the 64-bit result. -/
theorem toInt_tc64_scaleCurrent (raw : Word) {lsbUa : Nat} (h : lsbUa < 2 ^ 24) :
    (tc64 (scaleCurrent raw lsbUa)).toInt = s16 raw * lsbUa := by
  have hs : -32768 ≤ s16 raw ∧ s16 raw ≤ 32767 := by
    have := raw.isLt
    unfold s16
    split <;> omega
  have hlo : -32768 * (lsbUa : Int) ≤ s16 raw * lsbUa := Int.mul_le_mul_of_nonneg_right hs.1 (by omega)
  have hhi : s16 raw * lsbUa ≤ 32767 * (lsbUa : Int) := Int.mul_le_mul_of_nonneg_right hs.2 (by omega)
  simp only [tc64, scaleCurrent]
  exact BitVec.toInt_ofInt_eq_self (by decide) (by omega) (by omega)

/-- A power product of a 16-bit word with a 24-bit scale fits the 64-bit result. -/
theorem toNat_zext64_scalePower (raw : Word) {lsbUw : Nat} (h : lsbUw < 2 ^ 24) :
    (zext64 (scalePower raw lsbUw)).toNat = raw.toNat * lsbUw := by
  have hprod : raw.toNat * lsbUw < 2 ^ 16 * 2 ^ 24 := Nat.mul_lt_mul'' raw.isLt h
  simp only [zext64, scalePower, BitVec.toNat_ofNat]
  omega

theorem toNat_zext64_scaleBusVoltage (count : BitVec 13) :
    (zext64 (scaleBusVoltage count)).toNat = count.toNat * 4 := by
  have h := count.isLt
  simp only [zext64, scaleBusVoltage, Config.vbusLsbMv, BitVec.toNat_ofNat]
  omega

/-! ### What a reading stands for (00_scope.md R16) -/

/-- 100 uA per count is a tenth of a milliampere per count. -/
theorem currentMilliamps_tc64_scaleCurrent (raw : Word) :
    currentMilliamps (tc64 (scaleCurrent raw 100)) = (s16 raw : Rat) / 10 := by
  rw [currentMilliamps, toInt_tc64_scaleCurrent raw (by decide)]
  push_cast
  ring

/-- 2000 uW per count is a 500th of a watt per count. -/
theorem powerWatts_zext64_scalePower (raw : Word) :
    powerWatts (zext64 (scalePower raw 2000)) = (raw.toNat : Rat) / 500 := by
  rw [powerWatts, toNat_zext64_scalePower raw (by decide)]
  push_cast
  ring

/-- 4 mV per count is a 250th of a volt per count. -/
theorem busVolts_zext64_scaleBusVoltage (count : BitVec 13) :
    busVolts (zext64 (scaleBusVoltage count)) = (count.toNat : Rat) / 250 := by
  rw [busVolts, toNat_zext64_scaleBusVoltage]
  push_cast
  ring

end Sys2Proof.Machine

namespace Sys2Proof.Proofs

open Sys2Proof.Machine Sys2Proof.Claims

/-- Settles O39: one clause per typed read, from its next state and what the number in its response stands for. -/
theorem typedReadsAreTheSourcesReals : Obligations.TypedReadsAreTheSourcesReals := by
  intro s b0 b1 hready hilsb hplsb
  refine ⟨fun hcur => ?current, fun hpwr => ?power, fun hbus hbit => ?voltage⟩
  case current =>
    refine ⟨_, _, exec_rdcur_of_ok hready hcur, rfl, ?_⟩
    rw [hilsb]
    exact currentMilliamps_tc64_scaleCurrent (be16 b0 b1)
  case power =>
    refine ⟨_, _, exec_rdpwr_of_ok hready hpwr, rfl, ?_⟩
    rw [hplsb, ← be16_toNat]
    exact powerWatts_zext64_scalePower (be16 b0 b1)
  case voltage =>
    have hcnvr : conversionReady (be16 b0 b1) = true := (conversionReady_be16 b0 b1).trans hbit
    refine ⟨_, _, _, exec_rdvbus_of_ready_word hready hbus hcnvr, rfl, ?_⟩
    rw [busVolts_zext64_scaleBusVoltage, voltageCount_toNat, be16_toNat]

end Sys2Proof.Proofs

/-! What a command and a step can do to the state, said once (`CommandEffect`, `exec_effect`, `step_cases`); the
statements about the block's state (10_state.md) are read off from it. -/

namespace Sys2Proof.Machine

/-! ### Recorded transactions -/

@[simp] theorem State.recordAll_blk (s : State) (ts : List Txn) : (s.recordAll ts).blk = s.blk := by
  rw [State.recordAll_eq]

theorem State.record_recordAll (s : State) (ts : List Txn) (x : Txn) :
    (s.recordAll ts).record x = s.recordAll (ts ++ [x]) := by
  simp [State.recordAll]

/-- A command that issued the transactions `ts`, wrote nothing and answered `r`. -/
theorem State.respond_recordAll_beginCommand (s : State) (ts : List Txn) (r : Response) :
    (s.beginCommand.recordAll ts).respond r = s.afterCommand ts r := by
  simp [State.recordAll_eq, State.respond, State.afterCommand, State.beginCommand]

/-- The same for a command that wrote the block's state. -/
theorem State.respond_withBlk_recordAll_beginCommand (s : State) (ts : List Txn) (b : Block) (r : Response) :
    ((s.beginCommand.recordAll ts).withBlk b).respond r = (s.afterCommand ts r).withBlk b := by
  rw [← State.respond_recordAll_beginCommand]
  rfl

/-! ### Bodies that leave the block's state alone -/

/-- From `s` to `t` some transactions are recorded and a response is given, and nothing else happens. -/
def State.OnlyAnswers (s t : State) : Prop := ∃ ts r, t = (s.recordAll ts).respond r

theorem State.OnlyAnswers.respond (s : State) (r : Response) : s.OnlyAnswers (s.respond r) := ⟨[], r, rfl⟩

theorem State.OnlyAnswers.of_record {s t : State} {x : Txn} (h : (s.record x).OnlyAnswers t) : s.OnlyAnswers t := by
  obtain ⟨ts, r, rfl⟩ := h
  exact ⟨x :: ts, r, rfl⟩

theorem memRead_onlyAnswers {r : RegNum} {s : State} {next : Word → State → State}
    (hnext : ∀ v s', State.OnlyAnswers s' (next v s')) : s.OnlyAnswers (memRead r s next) := by
  obtain ⟨b0, b1, -, he⟩ | ⟨k, -, he⟩ := memRead_cases r s next <;> rw [he]
  · exact .of_record (hnext _ _)
  · exact .of_record (.respond _ _)

theorem memWrite_onlyAnswers {r : RegNum} {v : Word} {s : State} {next : State → State}
    (hnext : ∀ s', State.OnlyAnswers s' (next s')) : s.OnlyAnswers (memWrite r v s next) := by
  obtain ⟨b0, b1, -, he⟩ | ⟨k, -, he⟩ := memWrite_cases r v s next <;> rw [he]
  · exact .of_record (hnext _)
  · exact .of_record (.respond _ _)

theorem scan_onlyAnswers {as : List BusAddr} {s : State} {found : BusAddr → State → State}
    {notFound : State → State} (hfound : ∀ a s', State.OnlyAnswers s' (found a s'))
    (hnot : ∀ s', State.OnlyAnswers s' (notFound s')) : s.OnlyAnswers (scan as s found notFound) := by
  induction as generalizing s with
  | nil => exact hnot s
  | cons a as ih =>
    cases h : quickOutcome (s.answer (.quick a)) <;> simp only [scan, busQuick, h]
    case ack => exact .of_record (hfound a _)
    case noack => exact .of_record ih

/-! ### Everything `Reconfigure` can do (44_driver_sequencer.md R162) -/

/-- The two successful writes of a commit: Calibration, then Config. -/
def commitTxns (a : BusAddr) (cs : CalState) (w : Word) : List Txn :=
  [.write a 0x05#8 (hiByte cs.cal) (loByte cs.cal) .ok, .write a 0x00#8 (hiByte w) (loByte w) .ok]

theorem reconfigure_cases (shunt imax : BitVec 16) (c : CfgFields) (after : Block → Block) (s : State) :
    s.OnlyAnswers (reconfigure shunt imax c after s) ∨
    ∃ cs r0 r1 r2, computeCal shunt imax c.brng c.pg c.badc c.sadc = .ok cs ∧
      reconfigure shunt imax c after s =
        ((s.recordAll (commitTxns s.blk.addr cs (encodeConfig c))).withBlk
          (after (s.blk.commitShadow cs (encodeConfig c)))).respond (.ok r0 r1 r2) := by
  cases hcal : computeCal shunt imax c.brng c.pg c.badc c.sadc with
  | error why =>
    left
    simp only [reconfigure, hcal]
    exact .respond _ _
  | ok cs =>
    simp only [reconfigure, hcal]
    obtain ⟨_, _, -, he⟩ | ⟨k, -, he⟩ := memWrite_cases 0x05#8 cs.cal s _ <;> rw [he]
    · obtain ⟨_, _, -, he'⟩ | ⟨k, -, he'⟩ := memWrite_cases 0x00#8 (encodeConfig c) (s.record _) _ <;> rw [he']
      · exact .inr ⟨cs, _, _, _, rfl, rfl⟩
      · exact .inl (.of_record (.of_record (.respond _ _)))
    · exact .inl (.of_record (.respond _ _))

/-! ### Everything a command can do -/

/-- `i` is CONFIGURE or RECONF of these operands, allowed in the driver state `f` and leaving `g`. -/
def CommitsFrom (i : Instr) (shunt imax : BitVec 16) (c : CfgFields) (f g : Fsm) : Prop :=
  (i = .configure shunt imax c.brng c.pg c.badc c.sadc c.mode ∧ f = .located ∧ g = .configured) ∨
  (i = .reconf shunt imax c.brng c.pg c.badc c.sadc c.mode ∧ (f = .configured ∨ f = .ready) ∧ g = f)

/-- What a command can do: leave the block's state as it is, or make one of the four changes of
44_driver_sequencer.md under the conditions the prologue tests. -/
inductive CommandEffect (i : Instr) (s : State) : State → Prop
  | leavesBlock (ts : List Txn) (r : Response) (hclosed : s.blk.fsm = .closed → ts = []) :
    CommandEffect i s (s.afterCommand ts r)
  | locates (a : BusAddr) (ts : List Txn) (r0 : BitVec 64) (r1 r2 : BitVec 32)
    (hi : i.mnemonic = .locatea ∨ i.mnemonic = .locatep) (hfsm : s.blk.fsm = .uninit) (ha : InBusRange a) :
    CommandEffect i s ((s.afterCommand ts (.ok r0 r1 r2)).withBlk (s.blk.locate a))
  | commits (shunt imax : BitVec 16) (c : CfgFields) (cs : CalState) (g : Fsm) (r0 : BitVec 64) (r1 r2 : BitVec 32)
    (hi : CommitsFrom i shunt imax c s.blk.fsm g)
    (hcs : computeCal shunt imax c.brng c.pg c.badc c.sadc = .ok cs) :
    CommandEffect i s ((s.afterCommand (commitTxns s.blk.addr cs (encodeConfig c)) (.ok r0 r1 r2)).withBlk
      ((s.blk.commitShadow cs (encodeConfig c)).withFsm g))
  | enables (r0 : BitVec 64) (r1 r2 : BitVec 32) (hi : i = .enable) (hfsm : s.blk.fsm = .configured) :
    CommandEffect i s ((s.afterCommand [] (.ok r0 r1 r2)).withBlk (s.blk.withFsm .ready))
  | closes (r0 : BitVec 64) (r1 r2 : BitVec 32) (hi : i = .close) (hfsm : s.blk.fsm ≠ .closed) :
    CommandEffect i s ((s.afterCommand [] (.ok r0 r1 r2)).withBlk (s.blk.withFsm .closed))

theorem CommandEffect.respond (i : Instr) (s : State) (r : Response) :
    CommandEffect i s (s.beginCommand.respond r) :=
  .leavesBlock [] r fun _ => rfl

theorem CommandEffect.of_onlyAnswers {i : Instr} {s t : State} (hn : s.blk.fsm ≠ .closed)
    (h : s.beginCommand.OnlyAnswers t) : CommandEffect i s t := by
  obtain ⟨ts, r, rfl⟩ := h
  rw [State.respond_recordAll_beginCommand]
  exact .leavesBlock ts r fun hc => absurd hc hn

theorem inBusRange_of_mem_probeRange {a : BusAddr} (h : a ∈ probeRange) : InBusRange a := by
  obtain ⟨k, hk, rfl⟩ := List.mem_map.mp h
  have hlo : Config.probeLo.toNat = 3 := rfl
  have hhi : Config.probeHi.toNat = 0x76 := rfl
  rw [List.mem_range] at hk
  simp only [InBusRange, BitVec.toNat_ofNat]
  omega

theorem inBusRange_of_operandFault {a : BusAddr} (h : operandFault (.locatea a) = none) : InBusRange a := by
  have hlo : Config.probeLo.toNat = 3 := rfl
  have hhi : Config.probeHi.toNat = 0x76 := rfl
  simp [operandFault, BitVec.le_def] at h
  omega

/-- LOCATEP's scan: an address of the probe range is committed, or the block is left alone. -/
theorem CommandEffect.locatep {s : State} (hfsm : s.blk.fsm = .uninit) :
    CommandEffect .locatep s (scan probeRange s.beginCommand
      (fun a s => (s.withBlk (s.blk.locate a)).ok (zext64 a.toNat) 1#32 0#32) (fun s => s.raise .deviceNotFound)) := by
  obtain ⟨before, a, after, hmem, -, he⟩ | he := scan_cases probeRange s.beginCommand _ _ <;> rw [he]
  · have ha : InBusRange a := inBusRange_of_mem_probeRange (by simp [hmem])
    rw [State.record_recordAll, State.recordAll_blk, State.ok, State.respond_withBlk_recordAll_beginCommand]
    exact .locates a _ _ _ _ (.inr rfl) hfsm ha
  · exact .of_onlyAnswers (by simp [hfsm]) ⟨_, _, rfl⟩

theorem CommitsFrom.ne_closed {i : Instr} {shunt imax : BitVec 16} {c : CfgFields} {f g : Fsm}
    (h : CommitsFrom i shunt imax c f g) : f ≠ .closed := by
  obtain ⟨-, rfl, -⟩ | ⟨-, rfl | rfl, -⟩ := h <;> decide

theorem CommandEffect.reconfigure {i : Instr} {s : State} {shunt imax : BitVec 16} {c : CfgFields} {g : Fsm}
    {after : Block → Block} (hi : CommitsFrom i shunt imax c s.blk.fsm g)
    (hafter : ∀ cs w, after (s.blk.commitShadow cs w) = (s.blk.commitShadow cs w).withFsm g) :
    CommandEffect i s (reconfigure shunt imax c after s.beginCommand) := by
  obtain h | ⟨cs, r0, r1, r2, hcs, he⟩ := reconfigure_cases shunt imax c after s.beginCommand
  · exact .of_onlyAnswers hi.ne_closed h
  · rw [he, State.respond_withBlk_recordAll_beginCommand, State.beginCommand_blk, hafter]
    exact .commits shunt imax c cs g r0 r1 r2 hi hcs

/-- Every command is a body behind the prologue. -/
theorem exec_eq_runCommand (i : Instr) : ∃ body, exec i = runCommand i body := by
  cases i <;> exact ⟨_, rfl⟩

/-- CALC computes its response from its operands alone (43_scale_convert.md R151). -/
theorem exec_calcCal_eq_respond (shunt imax : BitVec 16) (brng : BitVec 1) (pg : BitVec 2) (badc sadc : BitVec 4) :
    ∃ r, exec (.calcCal shunt imax brng pg badc sadc) =
      runCommand (.calcCal shunt imax brng pg badc sadc) (·.respond r) := by
  cases h : computeCal shunt imax brng pg badc sadc with
  | error | ok => exact ⟨_, by funext s; simp only [exec, execCalc, h]; rfl⟩

/-- A command does what its body does, or the prologue answers a failure. -/
theorem runCommand_effect {i : Instr} {s : State} (body : State → State)
    (hbody : operandFault i = none → allowed s.blk i = true → ¬(needsHandle i = true ∧ s.blk.fsm = .closed) →
      CommandEffect i s (body s.beginCommand)) :
    ∃ t, runCommand i body s = .next t ∧ CommandEffect i s t := by
  refine ⟨_, runCommand_eq i body s, ?_⟩
  obtain ⟨hf, ha, hc, he⟩ | ⟨f, he⟩ := prologue_cases i body s.beginCommand <;> rw [he]
  · exact hbody hf ha hc
  · exact .respond i s _

/-- A command that only asks the bus. -/
theorem runCommand_effect_of_onlyAnswers {i : Instr} {s : State} (body : State → State) (hn : needsHandle i = true)
    (hbody : s.beginCommand.OnlyAnswers (body s.beginCommand)) :
    ∃ t, runCommand i body s = .next t ∧ CommandEffect i s t :=
  runCommand_effect body fun _ _ hc => .of_onlyAnswers (fun h => hc ⟨hn, h⟩) hbody

/-- A command that only answers. -/
theorem runCommand_effect_of_respond {i : Instr} {s : State} (body : State → State) (r : Response)
    (hbody : body s.beginCommand = s.beginCommand.respond r) :
    ∃ t, runCommand i body s = .next t ∧ CommandEffect i s t :=
  runCommand_effect body fun _ _ _ => hbody ▸ .respond i s r

/-- Every command answers a next state, and this is all it can be. -/
theorem exec_effect (i : Instr) (s : State) : ∃ t, exec i s = .next t ∧ CommandEffect i s t := by
  cases i with
  | rdw | rdcur | rdpwr =>
    exact runCommand_effect_of_onlyAnswers _ rfl (memRead_onlyAnswers fun _ _ => .respond _ _)
  | wrw => exact runCommand_effect_of_onlyAnswers _ rfl (memWrite_onlyAnswers fun _ => .respond _ _)
  | probe =>
    exact runCommand_effect_of_onlyAnswers _ rfl (scan_onlyAnswers (fun _ _ => .respond _ _) fun _ => .respond _ _)
  | rdvbus =>
    refine runCommand_effect_of_onlyAnswers _ rfl (memRead_onlyAnswers fun v s' => ?_)
    split
    · exact .respond _ _
    · exact memRead_onlyAnswers fun _ _ => .respond _ _
  | enccfg | deccfg | decs16 | decbv | cvti | cvtv | cvtp | getst | getcal =>
    exact runCommand_effect_of_respond _ _ rfl
  | calcCal shunt imax brng pg badc sadc =>
    obtain ⟨r, hr⟩ := exec_calcCal_eq_respond shunt imax brng pg badc sadc
    rw [hr]
    exact runCommand_effect_of_respond _ r rfl
  | locatea a =>
    refine runCommand_effect _ fun hf ha _ => ?_
    exact .locates a [] _ _ _ (.inl rfl) (by simpa [allowed] using ha) (inBusRange_of_operandFault hf)
  | locatep => exact runCommand_effect _ fun _ ha _ => .locatep (by simpa [allowed] using ha)
  | configure =>
    refine runCommand_effect _ fun _ ha _ => .reconfigure (.inl ⟨rfl, ?_, rfl⟩) fun _ _ => rfl
    simpa [allowed] using ha
  | reconf =>
    refine runCommand_effect _ fun _ ha _ => .reconfigure (.inr ⟨rfl, ?_, rfl⟩) fun _ _ => rfl
    simpa [allowed] using ha
  | enable => exact runCommand_effect _ fun _ ha _ => .enables _ _ _ rfl (by simpa [allowed] using ha)
  | close => exact runCommand_effect _ fun _ ha _ => .closes _ _ _ rfl (by simpa [allowed] using ha)

theorem effect_of_exec {i : Instr} {s t : State} (h : exec i s = .next t) : CommandEffect i s t := by
  obtain ⟨u, hu, he⟩ := exec_effect i s
  obtain rfl : u = t := by simpa [hu] using h
  exact he

/-! ### Everything a step can do -/

/-- An idle step, a reset, a word that is no command, or a command. -/
theorem step_cases {s t : State} (h : step s = .next t) :
    (s.port = [] ∧ t = s) ∨
    (s.port.head? = some .rst ∧ t = s.takeInput.resetBlock) ∨
    (∃ w sub, Claims.Presents s w ∧ decode w = .error sub ∧ t = refuseWord sub s.takeInput) ∨
    (∃ w i, Claims.Presents s w ∧ decode w = .ok i ∧ exec i s.takeInput = .next t) := by
  cases hp : s.port with
  | nil =>
    simp only [step, hp, Host.Outcome.next.injEq] at h
    exact .inl ⟨rfl, h.symm⟩
  | cons x rest =>
    cases x with
    | rst =>
      simp only [step, hp, Host.Outcome.next.injEq] at h
      exact .inr (.inl ⟨rfl, h.symm⟩)
    | command w =>
      simp only [step, hp] at h
      cases hd : decode w with
      | error sub =>
        simp only [hd, Host.Outcome.next.injEq] at h
        exact .inr (.inr (.inl ⟨w, sub, by simp [Claims.Presents, hp], hd, h.symm⟩))
      | ok i =>
        simp only [hd] at h
        exact .inr (.inr (.inr ⟨w, i, by simp [Claims.Presents, hp], hd, h⟩))

end Sys2Proof.Machine
/-! The invariant of the block's state (10_state.md R22 to R27): it holds at reset, and each of the four changes a
command can make to the block keeps it. -/

namespace Sys2Proof.Machine

/-! ### The values of a commit -/

/-- A field moved to an offset where it still fits the word. -/
theorem toNat_setWidth_shiftLeft {n k : Nat} (x : BitVec n) (h : n + k ≤ 16) :
    (x.setWidth 16 <<< k).toNat = x.toNat <<< k := by
  have hx : x.toNat * 2 ^ k < 2 ^ 16 :=
    calc x.toNat * 2 ^ k
      _ < 2 ^ n * 2 ^ k := Nat.mul_lt_mul_of_pos_right x.isLt (Nat.two_pow_pos k)
      _ = 2 ^ (n + k) := (Nat.pow_add 2 n k).symm
      _ ≤ 2 ^ 16 := Nat.pow_le_pow_right (by decide) h
  have hn : x.toNat < 2 ^ 16 := Nat.lt_of_le_of_lt (Nat.le_mul_of_pos_right _ (Nat.two_pow_pos k)) hx
  rw [BitVec.toNat_shiftLeft, BitVec.toNat_setWidth, Nat.mod_eq_of_lt hn, Nat.shiftLeft_eq, Nat.mod_eq_of_lt hx]

/-- The config word is the sum of its fields at their offsets (41_config_codec.md R120). -/
theorem encodeConfig_toNat (c : CfgFields) :
    (encodeConfig c).toNat = Claims.cfgNumber c.brng c.pg c.badc c.sadc c.mode := by
  have hpg := c.pg.isLt
  have hbadc := c.badc.isLt
  have hsadc := c.sadc.isLt
  have hmode := c.mode.isLt
  have hm : (c.mode.setWidth 16).toNat = c.mode.toNat := BitVec.toNat_setWidth_of_le (by decide)
  simp (disch := decide) only [encodeConfig, BitVec.toNat_or, Nat.or_assoc, toNat_setWidth_shiftLeft, hm]
  rw [← Nat.shiftLeft_add_eq_or_of_lt (i := 3) hmode, ← Nat.shiftLeft_add_eq_or_of_lt (i := 7) (by omega),
    ← Nat.shiftLeft_add_eq_or_of_lt (i := 11) (by omega), ← Nat.shiftLeft_add_eq_or_of_lt (i := 13) (by omega)]
  simp only [Nat.shiftLeft_eq, Claims.cfgNumber]
  omega
theorem encodeConfig_lt (c : CfgFields) : (encodeConfig c).toNat < 0x4000 := by
  rw [encodeConfig_toNat, Claims.cfgNumber]
  have := c.brng.isLt
  have := c.pg.isLt
  have := c.badc.isLt
  have := c.sadc.isLt
  have := c.mode.isLt
  omega

theorem hiByte_eq_ofNat (v : Word) : hiByte v = BitVec.ofNat 8 (v.toNat / 256) := by
  apply BitVec.eq_of_toNat_eq
  simp [hiByte, BitVec.extractLsb'_toNat, Nat.shiftRight_eq_div_pow]

theorem loByte_eq_ofNat (v : Word) : loByte v = BitVec.ofNat 8 (v.toNat % 256) := by
  apply BitVec.eq_of_toNat_eq
  simp [loByte, BitVec.extractLsb'_toNat]

/-- What `ComputeCal` returns on this hardware (43_scale_convert.md R150, 00_scope.md R10). -/
theorem computeCal_ok {shunt imax : BitVec 16} {brng : BitVec 1} {pg : BitVec 2} {badc sadc : BitVec 4} {cs : CalState}
    (h : computeCal shunt imax brng pg badc sadc = .ok cs) :
    shunt ≠ 0#16 ∧ cs.ilsb = 100#16 ∧ cs.plsb = 2000#24 ∧ cs.cal.toNat = 40960000 / (100 * shunt.toNat) := by
  rw [computeCal_eq] at h
  obtain ⟨-, he⟩ | ⟨-, -, he⟩ | ⟨hz, hq, he⟩ := computeCalFor_cases 100#16 shunt imax <;> rw [he] at h
  · cases h
  · cases h
  · obtain rfl := Except.ok.inj h
    refine ⟨fun h0 => hz (.inl h0), rfl, rfl, ?_⟩
    exact Nat.mod_eq_of_lt (Nat.lt_succ_of_le hq)

/-! ### The invariant -/

theorem Block.Inv.reset : Block.reset.Inv := by
  constructor <;> simp [Block.reset]

theorem Block.Inv.locate {b : Block} {a : BusAddr} (h : b.Inv) (hf : b.fsm = .uninit) (ha : InBusRange a) :
    (b.locate a).Inv where
  uninit_unresolved := nofun
  driving_resolved := fun _ => rfl
  unresolved_zero := nofun
  resolved_in_range := fun _ => ha
  early_uncalibrated := fun _ => h.early_uncalibrated (.inl hf)
  driving_calibrated := by simp
  calibrated_resolved := fun _ => rfl
  uncalibrated_zero := h.uncalibrated_zero
  calibrated_lsbs := h.calibrated_lsbs
  calibrated_cal := h.calibrated_cal
  calibrated_cfg := h.calibrated_cfg

/-- A change of the driver state alone has to respect the four clauses that speak of it. -/
theorem Block.Inv.withFsm {b : Block} {g : Fsm} (h : b.Inv) (huninit : g = .uninit → b.addrv = false)
    (hdriving : g = .located ∨ g = .configured ∨ g = .ready → b.addrv = true)
    (hearly : g = .uninit ∨ g = .located → b.calv = false)
    (hcal : g = .configured ∨ g = .ready → b.calv = true) :
    (b.withFsm g).Inv where
  uninit_unresolved := huninit
  driving_resolved := hdriving
  unresolved_zero := h.unresolved_zero
  resolved_in_range := h.resolved_in_range
  early_uncalibrated := hearly
  driving_calibrated := hcal
  calibrated_resolved := h.calibrated_resolved
  uncalibrated_zero := h.uncalibrated_zero
  calibrated_lsbs := h.calibrated_lsbs
  calibrated_cal := h.calibrated_cal
  calibrated_cfg := h.calibrated_cfg

theorem Block.Inv.enable {b : Block} (h : b.Inv) (hf : b.fsm = .configured) : (b.withFsm .ready).Inv :=
  h.withFsm nofun (fun _ => h.driving_resolved (.inr (.inl hf))) (by simp) fun _ => h.driving_calibrated (.inl hf)

theorem Block.Inv.close {b : Block} (h : b.Inv) : (b.withFsm .closed).Inv :=
  h.withFsm nofun (by simp) (by simp) (by simp)

/-- A commit out of a resolved state, into CONFIGURED or READY. -/
theorem Block.Inv.commit {b : Block} {shunt imax : BitVec 16} {c : CfgFields} {cs : CalState} {g : Fsm} (h : b.Inv)
    (hcs : computeCal shunt imax c.brng c.pg c.badc c.sadc = .ok cs) (hres : b.addrv = true)
    (hg : g = .configured ∨ g = .ready) : ((b.commitShadow cs (encodeConfig c)).withFsm g).Inv := by
  obtain ⟨hshunt, hilsb, hplsb, hcal⟩ := computeCal_ok hcs
  have hne : g ≠ .uninit ∧ g ≠ .located := by obtain rfl | rfl := hg <;> decide
  exact {
    uninit_unresolved := fun hu => absurd hu hne.1
    driving_resolved := fun _ => hres
    unresolved_zero := h.unresolved_zero
    resolved_in_range := h.resolved_in_range
    early_uncalibrated := fun he => he.elim (absurd · hne.1) (absurd · hne.2)
    driving_calibrated := fun _ => rfl
    calibrated_resolved := fun _ => hres
    uncalibrated_zero := nofun
    calibrated_lsbs := fun _ => ⟨hilsb, hplsb⟩
    calibrated_cal := fun _ => ⟨shunt, hshunt, by simp [hilsb, hcal]⟩
    calibrated_cfg := fun _ => encodeConfig_lt c }

theorem CommitsFrom.driving {i : Instr} {shunt imax : BitVec 16} {c : CfgFields} {f g : Fsm}
    (h : CommitsFrom i shunt imax c f g) :
    (f = .located ∨ f = .configured ∨ f = .ready) ∧ (g = .configured ∨ g = .ready) := by
  obtain ⟨-, rfl, rfl⟩ | ⟨-, hf, rfl⟩ := h
  · exact ⟨.inl rfl, .inl rfl⟩
  · exact ⟨.inr hf, hf⟩

theorem CommandEffect.inv {i : Instr} {s t : State} (h : CommandEffect i s t) (hs : s.blk.Inv) : t.blk.Inv := by
  cases h with
  | leavesBlock => exact hs
  | locates a ts r0 r1 r2 hi hfsm ha => exact hs.locate hfsm ha
  | commits shunt imax c cs g r0 r1 r2 hi hcs =>
    exact hs.commit hcs (hs.driving_resolved hi.driving.1) hi.driving.2
  | enables r0 r1 r2 hi hfsm => exact hs.enable hfsm
  | closes => exact hs.close

end Sys2Proof.Machine

namespace Sys2Proof.Proofs

open Sys2Proof.Machine Sys2Proof.Claims

/-- Settles O9. -/
theorem resetStateIsAllZero : Obligations.ResetStateIsAllZero :=
  ⟨rfl, rfl, rfl, rfl, rfl, rfl, rfl, rfl⟩

/-- Settles O52. -/
theorem invariantHoldsAtReset : Obligations.InvariantHoldsAtReset := Block.Inv.reset

/-- Settles O53, by what a step can do: only a reset and a command change the block, and each keeps the invariant. -/
theorem everyStepKeepsTheInvariant : Obligations.EveryStepKeepsTheInvariant := by
  intro s t hs h
  obtain ⟨-, rfl⟩ | ⟨-, rfl⟩ | ⟨w, sub, -, -, rfl⟩ | ⟨w, i, -, -, hx⟩ := step_cases h
  · exact hs
  · exact Block.Inv.reset
  · exact hs
  · exact (effect_of_exec hx).inv hs

/-- Settles O45: each effect is the frame with a block of its own. -/
theorem frameOfEveryCommand : Obligations.FrameOfEveryCommand := by
  intro i s t h
  cases effect_of_exec h <;> exact ⟨_, rfl⟩

/-- Settles O47: the driver state moves only with a command that succeeds, along its row of R21, or by reset. -/
theorem onlyTheListedTransitionsHappen : Obligations.OnlyTheListedTransitionsHappen := by
  intro s t h
  obtain ⟨-, rfl⟩ | ⟨hp, rfl⟩ | ⟨w, sub, -, -, rfl⟩ | ⟨w, i, hw, hd, hx⟩ := step_cases h
  · exact .inl rfl
  · exact .inr (.inr ⟨hp, rfl⟩)
  · exact .inl rfl
  · cases effect_of_exec hx with
    | leavesBlock => exact .inl rfl
    | locates a ts r0 r1 r2 hi hfsm ha =>
      exact .inr (.inl ⟨w, i, r0, r1, r2, hw, hd, .inl ⟨hfsm, rfl, hi⟩, rfl⟩)
    | commits shunt imax c cs g r0 r1 r2 hi hcs =>
      obtain ⟨rfl, hf, rfl⟩ | ⟨-, -, rfl⟩ := hi
      · exact .inr (.inl ⟨w, _, r0, r1, r2, hw, hd, .inr (.inl ⟨hf, rfl, rfl⟩), rfl⟩)
      · exact .inl rfl
    | enables r0 r1 r2 hi hfsm =>
      subst hi
      exact .inr (.inl ⟨w, _, r0, r1, r2, hw, hd, .inr (.inr (.inl ⟨hfsm, rfl, rfl⟩)), rfl⟩)
    | closes r0 r1 r2 hi hfsm =>
      subst hi
      exact .inr (.inl ⟨w, _, r0, r1, r2, hw, hd, .inr (.inr (.inr ⟨hfsm, rfl, rfl⟩)), rfl⟩)

/-- Settles O48: of the effects of a command only `locates` writes the address, in UNINIT, where it is unresolved. -/
theorem addressIsWrittenOnlyAtLocating : Obligations.AddressIsWrittenOnlyAtLocating := by
  intro s t hs h
  obtain ⟨-, rfl⟩ | ⟨hp, rfl⟩ | ⟨w, sub, -, -, rfl⟩ | ⟨w, i, -, -, hx⟩ := step_cases h
  · exact .inl ⟨rfl, rfl⟩
  · exact .inr (.inr ⟨hp, rfl, rfl⟩)
  · exact .inl ⟨rfl, rfl⟩
  · cases effect_of_exec hx with
    | locates a ts r0 r1 r2 hi hfsm ha => exact .inr (.inl ⟨hfsm, rfl, hs.uninit_unresolved hfsm, rfl, ha⟩)
    | leavesBlock | commits | enables | closes => exact .inl ⟨rfl, rfl⟩

/-- Settles O49: of the effects of a command only `commits` writes the shadow. -/
theorem shadowIsCommittedWholeOrNotAtAll : Obligations.ShadowIsCommittedWholeOrNotAtAll := by
  intro i s t h
  cases effect_of_exec h with
  | leavesBlock | locates | enables | closes => exact .inl ⟨rfl, rfl, rfl, rfl, rfl⟩
  | commits shunt imax c cs g r0 r1 r2 hi hcs =>
    refine .inr ⟨shunt, imax, c.brng, c.pg, c.badc, c.sadc, c.mode, cs, ?_, hcs, ?_, rfl, rfl, rfl, rfl, ?_⟩
    · exact hi.imp And.left And.left
    · simp [commitTxns, writeTxn, hiByte_eq_ofNat, loByte_eq_ofNat, encodeConfig_toNat]
    · simp [← encodeConfig_toNat]

/-- Settles O50: in CLOSED the only effect left is `leavesBlock`, without transactions. -/
theorem closedBlockIssuesNoTransaction : Obligations.ClosedBlockIssuesNoTransaction := by
  intro s t hc hr h
  obtain ⟨-, rfl⟩ | ⟨hp, -⟩ | ⟨w, sub, -, -, rfl⟩ | ⟨w, i, -, -, hx⟩ := step_cases h
  · exact ⟨rfl, rfl, rfl⟩
  · exact absurd hp hr
  · exact ⟨rfl, rfl, List.append_nil _⟩
  · cases effect_of_exec hx with
    | leavesBlock ts r hts =>
      obtain rfl := hts hc
      exact ⟨rfl, rfl, List.append_nil _⟩
    | locates a ts r0 r1 r2 hi hfsm => simp [hc] at hfsm
    | commits shunt imax c cs g r0 r1 r2 hi => exact absurd hc hi.ne_closed
    | enables r0 r1 r2 hi hfsm => simp [hc] at hfsm
    | closes r0 r1 r2 hi hfsm => exact absurd hc hfsm

end Sys2Proof.Proofs
/-! Two runs of a command from states that differ in one part of the block: when the command does not read the
part, they end alike, or they still differ in that part alone (10_state.md R29). -/

namespace Sys2Proof.Machine

/-- A part of the block's state: how to read it and how to replace it. -/
structure BlockPart (α : Type) where
  get : Block → α
  put : α → Block → Block

/-- `S.ADDR`. -/
def addrPart : BlockPart BusAddr := { get := Block.addr, put := fun a b => { b with addr := a } }

/-- `S.CAL`, `S.ILSB`, `S.PLSB` and `S.CFG`. -/
def shadowPart : BlockPart (CalState × Word) where
  get b := (⟨b.cal, b.ilsb, b.plsb⟩, b.cfg)
  put v b := { b with cal := v.1.cal, ilsb := v.1.ilsb, plsb := v.1.plsb, cfg := v.2 }

section

variable {α : Type} (p : BlockPart α) (v : α)

/-- `s` with `v` in the part `p`. -/
def State.putPart (s : State) : State := s.withBlk (p.put v s.blk)

/-- Of two runs, one from `s` and one from `s` with `v` in the part `p`: they end in the same state; or the first left
the part as it was, and the second ends in the first's state with `v` there. -/
def EndsAlike (s t t' : State) : Prop := t' = t ∨ (p.get t.blk = p.get s.blk ∧ t' = t.putPart p v)

/-- Begun in `s`, the body does not read the part `p`. -/
def Ignores (body : State → State) (s : State) : Prop := EndsAlike p v s (body s) (body (s.putPart p v))

/-- The prologue does not read the part `p` (60_exceptions.md R204). -/
def Ungated : Prop := ∀ v b, (p.put v b).fsm = b.fsm ∧ (p.put v b).calv = b.calv

/-- The environment's answers do not depend on the block's state. -/
@[simp] theorem State.answer_putPart (s : State) (q : Request) : (s.putPart p v).answer q = s.answer q := rfl

@[simp] theorem State.putPart_blk (s : State) : (s.putPart p v).blk = p.put v s.blk := rfl

/-- A response that does not depend on the part. -/
theorem ignores_respond (r : Response) (s : State) : Ignores p v (·.respond r) s := .inr ⟨rfl, rfl⟩

variable {p v}

theorem memRead_ignores {r : RegNum} {s : State} {next : Word → State → State}
    (ha : (p.put v s.blk).addr = s.blk.addr) (hnext : ∀ w s', Ignores p v (next w) s') :
    Ignores p v (memRead r · next) s := by
  unfold Ignores
  cases h : s.answer (.read s.blk.addr r) <;>
    simp only [memRead, busRead, State.answer_putPart, State.putPart_blk, ha, h]
  case ok => exact hnext _ (s.record _)
  case fail => exact ignores_respond p v _ (s.record _)

theorem memWrite_ignores {r : RegNum} {w : Word} {s : State} {next : State → State}
    (ha : (p.put v s.blk).addr = s.blk.addr) (hnext : ∀ s', Ignores p v next s') :
    Ignores p v (memWrite r w · next) s := by
  unfold Ignores
  cases h : s.answer (.write s.blk.addr r (hiByte w) (loByte w)) <;>
    simp only [memWrite, busWrite, State.answer_putPart, State.putPart_blk, ha, h]
  case ok => exact hnext (s.record _)
  case fail => exact ignores_respond p v _ (s.record _)

theorem scan_ignores {as : List BusAddr} {s : State} {found : BusAddr → State → State} {notFound : State → State}
    (hfound : ∀ a s', Ignores p v (found a) s') (hnot : ∀ s', Ignores p v notFound s') :
    Ignores p v (scan as · found notFound) s := by
  induction as generalizing s with
  | nil => exact hnot s
  | cons a as ih =>
    unfold Ignores
    cases h : quickOutcome (s.answer (.quick a)) <;> simp only [scan, busQuick, State.answer_putPart, h]
    case ack => exact hfound a (s.record _)
    case noack => exact ih (s := s.record _)

theorem reconfigure_ignores {shunt imax : BitVec 16} {c : CfgFields} {after : Block → Block} {s : State}
    (ha : ∀ b, (p.put v b).addr = b.addr)
    (hcommit : ∀ b cs w, (p.put v b).commitShadow cs w = b.commitShadow cs w) :
    Ignores p v (reconfigure shunt imax c after) s := by
  unfold Ignores reconfigure
  cases computeCal shunt imax c.brng c.pg c.badc c.sadc with
  | error why => exact ignores_respond p v _ s
  | ok cs =>
    refine memWrite_ignores (ha _) fun s' => memWrite_ignores (ha _) fun s'' => .inl ?_
    simp only [State.putPart_blk, hcommit]
    rfl

theorem allowed_congr {b b' : Block} (hf : b.fsm = b'.fsm) (hv : b.calv = b'.calv) (i : Instr) :
    allowed b i = allowed b' i := by
  cases i <;> simp only [allowed, hf, hv]

theorem prologue_ignores {i : Instr} {s : State} {body : State → State} (hp : Ungated p)
    (hbody : allowed s.blk i = true → Ignores p v body s) :
    Ignores p v (prologue i body) s := by
  obtain ⟨hfsm, hcalv⟩ := hp v s.blk
  have ha : allowed (p.put v s.blk) i = allowed s.blk i := allowed_congr hfsm hcalv i
  unfold Ignores prologue
  cases operandFault i with
  | some sub => exact ignores_respond p v _ s
  | none =>
    simp only [State.putPart_blk, hfsm, ha]
    split
    · exact ignores_respond p v _ s
    · split
      · exact hbody ‹_›
      · exact ignores_respond p v _ s

/-- The command does not read the part `p` in `s`. -/
def ExecIgnores {α : Type} (p : BlockPart α) (v : α) (i : Instr) (s : State) : Prop :=
  ∃ t t', exec i s = .next t ∧ exec i (s.putPart p v) = .next t' ∧ EndsAlike p v s t t'

theorem execIgnores_of_body {i : Instr} {s : State} {body : State → State} (hp : Ungated p)
    (he : exec i = runCommand i body) (hbody : allowed s.blk i = true → Ignores p v body s.beginCommand) :
    ExecIgnores p v i s := by
  unfold ExecIgnores
  rw [he]
  exact ⟨_, _, rfl, rfl, prologue_ignores (s := s.beginCommand) hp hbody⟩

theorem execIgnores_of_not_allowed {i : Instr} {s : State} (hp : Ungated p) (ha : ¬ allowed s.blk i = true) :
    ExecIgnores p v i s := by
  obtain ⟨body, he⟩ := exec_eq_runCommand i
  exact execIgnores_of_body hp he fun h => absurd h ha

/-- Families 2, 3 and 4 read no part. -/
theorem execIgnores_of_pure {i : Instr} {s : State} (hp : Ungated p) (hi : i.mnemonic ∈ Claims.pureCommands) :
    ExecIgnores p v i s := by
  cases i with
  | enccfg | deccfg | decs16 | decbv | cvti | cvtv | cvtp =>
    exact execIgnores_of_body hp rfl fun _ => ignores_respond p v _ _
  | calcCal shunt imax brng pg badc sadc =>
    obtain ⟨r, hr⟩ := exec_calcCal_eq_respond shunt imax brng pg badc sadc
    exact execIgnores_of_body hp hr fun _ => ignores_respond p v _ _
  | _ => simp [Claims.pureCommands, Instr.mnemonic] at hi

end

/-! ### The two parts behind a valid bit -/

/-- While the address is unresolved, the commands that use it are not allowed, and LOCATEA and LOCATEP write it. -/
theorem execIgnores_addrPart {i : Instr} {s : State} (hs : s.blk.Inv) (hv : s.blk.addrv = false) (hi : i ≠ .getst)
    (a : BusAddr) : ExecIgnores addrPart a i s := by
  have hp : Ungated addrPart := fun _ _ => ⟨rfl, rfl⟩
  have hnot : ¬ (s.blk.fsm = .located ∨ s.blk.fsm = .configured ∨ s.blk.fsm = .ready) :=
    fun h => by simp [hs.driving_resolved h] at hv
  push Not at hnot
  obtain ⟨hlocated, hconfigured, hready⟩ := hnot
  cases i with
  | enccfg | deccfg | decs16 | decbv | cvti | cvtv | cvtp | calcCal =>
    exact execIgnores_of_pure hp (by simp [Claims.pureCommands, Instr.mnemonic])
  | rdw | wrw | configure | enable | rdcur | rdvbus | rdpwr | reconf =>
    exact execIgnores_of_not_allowed hp (by simp [allowed, hlocated, hconfigured, hready])
  | probe =>
    exact execIgnores_of_body hp rfl fun _ =>
      scan_ignores (fun _ => ignores_respond _ _ _) (ignores_respond _ _ _)
  | locatea => exact execIgnores_of_body hp rfl fun _ => .inl rfl
  | locatep =>
    exact execIgnores_of_body hp rfl fun _ => scan_ignores (fun _ _ => .inl rfl) (ignores_respond _ _ _)
  | close | getcal => exact execIgnores_of_body hp rfl fun _ => .inr ⟨rfl, rfl⟩
  | getst => exact absurd rfl hi

/-- While the shadow is not valid, the commands that use it are not allowed, and CONFIGURE writes it. -/
theorem execIgnores_shadowPart {i : Instr} {s : State} (hs : s.blk.Inv) (hv : s.blk.calv = false) (hi : i ≠ .getst)
    (v : CalState × Word) : ExecIgnores shadowPart v i s := by
  have hp : Ungated shadowPart := fun _ _ => ⟨rfl, rfl⟩
  have hnot : ¬ (s.blk.fsm = .configured ∨ s.blk.fsm = .ready) := fun h => by simp [hs.driving_calibrated h] at hv
  push Not at hnot
  obtain ⟨hconfigured, hready⟩ := hnot
  cases i with
  | enccfg | deccfg | decs16 | decbv | cvti | cvtv | cvtp | calcCal =>
    exact execIgnores_of_pure hp (by simp [Claims.pureCommands, Instr.mnemonic])
  | enable | rdcur | rdvbus | rdpwr | reconf | getcal =>
    exact execIgnores_of_not_allowed hp (by simp [allowed, hconfigured, hready, hv])
  | rdw => exact execIgnores_of_body hp rfl fun _ => memRead_ignores rfl fun _ => ignores_respond _ _ _
  | wrw => exact execIgnores_of_body hp rfl fun _ => memWrite_ignores rfl (ignores_respond _ _ _)
  | probe =>
    exact execIgnores_of_body hp rfl fun _ =>
      scan_ignores (fun _ => ignores_respond _ _ _) (ignores_respond _ _ _)
  | locatea | close => exact execIgnores_of_body hp rfl fun _ => .inr ⟨rfl, rfl⟩
  | locatep =>
    exact execIgnores_of_body hp rfl fun _ => scan_ignores (fun _ _ => .inr ⟨rfl, rfl⟩) (ignores_respond _ _ _)
  | configure =>
    exact execIgnores_of_body hp rfl fun _ => reconfigure_ignores (fun _ => rfl) fun _ _ _ => rfl
  | getst => exact absurd rfl hi

/-- The second run of a command whose first run ends in `t`. -/
theorem ExecIgnores.of_exec {α : Type} {p : BlockPart α} {v : α} {i : Instr} {s t : State}
    (h : ExecIgnores p v i s) (ht : exec i s = .next t) :
    exec i (s.putPart p v) = .next t ∨
      (p.get t.blk = p.get s.blk ∧ exec i (s.putPart p v) = .next (t.putPart p v)) := by
  obtain ⟨u, u', hu, hu', ha⟩ := h
  obtain rfl : u = t := by simpa [hu] using ht
  rw [hu']
  exact ha.imp (congrArg _) (And.imp_right (congrArg _))

end Sys2Proof.Machine

namespace Sys2Proof.Proofs

open Sys2Proof.Machine Sys2Proof.Claims

/-- Settles O56, part by part: `S.ADDR` behind `S.ADDRV`, the shadow behind `S.CALV`. -/
theorem elementsBehindAClearedValidBitAreNotRead : Obligations.ElementsBehindAClearedValidBitAreNotRead := by
  intro i s t hs hi ht
  refine ⟨fun a hv => (execIgnores_addrPart hs hv hi a).of_exec ht, fun cal ilsb plsb cfg hv => ?_⟩
  refine ((execIgnores_shadowPart hs hv hi (⟨cal, ilsb, plsb⟩, cfg)).of_exec ht).imp_right (And.imp_left ?_)
  intro hget
  simpa [shadowPart, and_assoc] using hget

/-- Settles O55: a command takes the state as `beginCommand` leaves it, and that clears the response. -/
theorem responseIsNeverReadBack : Obligations.ResponseIsNeverReadBack := by
  intro i s r
  obtain ⟨body, he⟩ := exec_eq_runCommand i
  rw [he]
  rfl

end Sys2Proof.Proofs
/-! What a command puts on the bus (20_memory.md R45 to R51), said once (`BusTrace`, `exec_busTrace`): nothing, the
quick writes of a scan, or one or two register transactions. The statements about the bus are read off from it. -/

namespace Sys2Proof.Machine

/-! ### The transactions of each command -/

/-- The first register transaction of a command, at the resolved address `a` (40_bus_access.md R100, R101;
44_driver_sequencer.md R162 to R167). -/
inductive FirstTxn (a : BusAddr) : Instr → Txn → Prop
  | rdw (reg : RegNum) (o : ReadOutcome) : FirstTxn a (.rdw reg) (.read a reg o)
  | wrw (reg : RegNum) (v : Word) (o : WriteOutcome) : FirstTxn a (.wrw reg v) (.write a reg (hiByte v) (loByte v) o)
  | rdcur (o : ReadOutcome) : FirstTxn a .rdcur (.read a 4#8 o)
  | rdvbus (o : ReadOutcome) : FirstTxn a .rdvbus (.read a 2#8 o)
  | rdpwr (o : ReadOutcome) : FirstTxn a .rdpwr (.read a 3#8 o)
  | configure (shunt imax : BitVec 16) (c : CfgFields) (v : Word) (o : WriteOutcome) :
    FirstTxn a (.configure shunt imax c.brng c.pg c.badc c.sadc c.mode) (.write a 5#8 (hiByte v) (loByte v) o)
  | reconf (shunt imax : BitVec 16) (c : CfgFields) (v : Word) (o : WriteOutcome) :
    FirstTxn a (.reconf shunt imax c.brng c.pg c.badc c.sadc c.mode) (.write a 5#8 (hiByte v) (loByte v) o)

/-- The second register transaction `y` of a command whose first was `x`: RDVBUS reads again when the first word is
not ready (44_driver_sequencer.md R165), and the Config write follows the Calibration write (R162). -/
inductive SecondTxn (a : BusAddr) : Instr → Txn → Txn → Prop
  | rdvbus (b0 b1 : Byte) (hbit : b1.getLsbD 1 = false) (o : ReadOutcome) :
    SecondTxn a .rdvbus (.read a 2#8 (.ok b0 b1)) (.read a 2#8 o)
  | configure (shunt imax : BitVec 16) (c : CfgFields) (x : Txn) (v : Word) (o : WriteOutcome) :
    SecondTxn a (.configure shunt imax c.brng c.pg c.badc c.sadc c.mode) x (.write a 0#8 (hiByte v) (loByte v) o)
  | reconf (shunt imax : BitVec 16) (c : CfgFields) (x : Txn) (v : Word) (o : WriteOutcome) :
    SecondTxn a (.reconf shunt imax c.brng c.pg c.badc c.sadc c.mode) x (.write a 0#8 (hiByte v) (loByte v) o)

/-- If `x`, transaction number `n` of its command, failed, then the response in `t` is that failure (R48, R49). -/
def State.Surfaces (t : State) (x : Txn) (n : Nat) : Prop :=
  ∀ k, txnFailure x = some k → t.resp = some (.err .busIOError (Claims.busInfo k n))

/-- What the command `i` put on the bus between `s` and `t`. -/
inductive BusTrace (i : Instr) (s t : State) : Prop
  | silent (ht : t.txns = [])
  | scans (hi : i = .probe ∨ i = .locatep) (hlen : t.txns.length ≤ probeRange.length)
    (hquick : ∀ x ∈ t.txns, ∃ a ∈ probeRange, ∃ o, x = .quick a o)
  | one (x : Txn) (ht : t.txns = [x]) (hx : FirstTxn s.blk.addr i x) (hr : t.Surfaces x 0)
  | two (x y : Txn) (ht : t.txns = [x, y]) (hx : FirstTxn s.blk.addr i x) (hok : txnFailure x = none)
    (hy : SecondTxn s.blk.addr i x y) (hr : t.Surfaces y 1)

/-! ### A failure in the response -/

theorem kindNumber_lt (k : FailKind) : Claims.kindNumber k < 2 ^ 8 := by
  cases k <;> decide

theorem failKindCode_toNat (k : FailKind) : (failKindCode k).toNat = Claims.kindNumber k := by
  cases k <;> rfl

/-- The two bytes of `EINFO` of a bus failure are the number of 60_exceptions.md R203. -/
theorem einfo_busIO {k : FailKind} {n : Nat} (hn : n < 256) : (Failure.busIO k n).einfo = Claims.busInfo k n := by
  have hk := kindNumber_lt k
  apply BitVec.eq_of_toNat_eq
  have hlo : ((failKindCode k).setWidth 64).toNat = Claims.kindNumber k := by
    rw [BitVec.toNat_setWidth_of_le (by decide), failKindCode_toNat]
  have hhi : ((BitVec.ofNat 8 n).setWidth 64 <<< 8).toNat = n <<< 8 := by
    simp only [BitVec.toNat_shiftLeft, BitVec.toNat_setWidth, BitVec.toNat_ofNat, Nat.shiftLeft_eq]
    omega
  rw [Failure.einfo, BitVec.toNat_or, hlo, hhi, ← Nat.shiftLeft_add_eq_or_of_lt hk, Nat.shiftLeft_eq]
  simp only [Claims.busInfo, BitVec.toNat_ofNat]
  omega

theorem State.surfaces_of_ok {t : State} {x : Txn} {n : Nat} (hx : txnFailure x = none) : t.Surfaces x n := by
  simp [State.Surfaces, hx]

theorem State.surfaces_raise {s : State} {x : Txn} {k : FailKind} {n : Nat} (hx : txnFailure x = some k)
    (hn : n < 256) : (s.raise (.busIO k n)).Surfaces x n := by
  intro k' hk'
  obtain rfl : k = k' := Option.some.inj (hx.symm.trans hk')
  rw [State.raise_resp, einfo_busIO hn]
  rfl

/-! ### The trace of each kind of body -/

@[simp] theorem State.recordAll_txns (s : State) (ts : List Txn) : (s.recordAll ts).txns = s.txns ++ ts := by
  rw [State.recordAll_eq]

/-- A body that is one framed read. -/
theorem BusTrace.memRead {i : Instr} {s : State} {r : RegNum} {next : Word → State → State}
    (hx : ∀ o, FirstTxn s.blk.addr i (.read s.blk.addr r o)) (hnext : ∀ v s', (next v s').txns = s'.txns) :
    BusTrace i s (memRead r s.beginCommand next) := by
  obtain ⟨b0, b1, -, he⟩ | ⟨k, -, he⟩ := memRead_cases r s.beginCommand next <;> rw [he]
  · exact .one _ (by rw [hnext]; rfl) (hx _) (State.surfaces_of_ok rfl)
  · exact .one _ rfl (hx _) (State.surfaces_raise rfl (by simp))

/-- A body that is one framed write. -/
theorem BusTrace.memWrite {i : Instr} {s : State} {r : RegNum} {v : Word} {next : State → State}
    (hx : ∀ o, FirstTxn s.blk.addr i (.write s.blk.addr r (hiByte v) (loByte v) o))
    (hnext : ∀ s', (next s').txns = s'.txns) : BusTrace i s (memWrite r v s.beginCommand next) := by
  obtain ⟨b0, b1, -, he⟩ | ⟨k, -, he⟩ := memWrite_cases r v s.beginCommand next <;> rw [he]
  · exact .one _ (by rw [hnext]; rfl) (hx _) (State.surfaces_of_ok rfl)
  · exact .one _ rfl (hx _) (State.surfaces_raise rfl (by simp))

/-- The body of RDVBUS (44_driver_sequencer.md R165). -/
theorem BusTrace.rdvbus (s : State) :
    BusTrace .rdvbus s (Machine.memRead 2#8 s.beginCommand fun v s' =>
      if conversionReady v then s'.okBusVoltage (decodeBusVoltage v)
      else Machine.memRead 2#8 s' fun v s'' => s''.okBusVoltage (decodeBusVoltage v)) := by
  obtain ⟨b0, b1, -, he⟩ | ⟨k, -, he⟩ := memRead_cases 2#8 s.beginCommand _ <;> rw [he]
  · cases hc : conversionReady (be16 b0 b1) with
    | true => exact .one _ rfl (.rdvbus _) (State.surfaces_of_ok rfl)
    | false =>
      have hbit : b1.getLsbD 1 = false := (conversionReady_be16 b0 b1).symm.trans hc
      rw [if_neg Bool.false_ne_true]
      obtain ⟨_, _, -, he'⟩ | ⟨k, -, he'⟩ := memRead_cases 2#8 (s.beginCommand.record _) _ <;> rw [he']
      · exact .two _ _ rfl (.rdvbus _) rfl (.rdvbus b0 b1 hbit _) (State.surfaces_of_ok rfl)
      · exact .two _ _ rfl (.rdvbus _) rfl (.rdvbus b0 b1 hbit _) (State.surfaces_raise rfl (by simp))
  · exact .one _ rfl (.rdvbus _) (State.surfaces_raise rfl (by simp))

/-- The body of CONFIGURE and RECONF (44_driver_sequencer.md R162). -/
theorem BusTrace.reconfigure {i : Instr} {s : State} {shunt imax : BitVec 16} {c : CfgFields} {after : Block → Block}
    (hx : ∀ v o, FirstTxn s.blk.addr i (.write s.blk.addr 5#8 (hiByte v) (loByte v) o))
    (hy : ∀ x v o, SecondTxn s.blk.addr i x (.write s.blk.addr 0#8 (hiByte v) (loByte v) o)) :
    BusTrace i s (reconfigure shunt imax c after s.beginCommand) := by
  cases hcal : computeCal shunt imax c.brng c.pg c.badc c.sadc with
  | error why =>
    simp only [Machine.reconfigure, hcal]
    exact .silent rfl
  | ok cs =>
    simp only [Machine.reconfigure, hcal]
    obtain ⟨_, _, -, he⟩ | ⟨k, -, he⟩ := memWrite_cases 5#8 cs.cal s.beginCommand _ <;> rw [he]
    · obtain ⟨_, _, -, he'⟩ | ⟨k, -, he'⟩ := memWrite_cases 0#8 (encodeConfig c) (s.beginCommand.record _) _ <;>
        rw [he']
      · exact .two _ _ rfl (hx _ _) rfl (hy _ _ _) (State.surfaces_of_ok rfl)
      · exact .two _ _ rfl (hx _ _) rfl (hy _ _ _) (State.surfaces_raise rfl (by simp))
    · exact .one _ rfl (hx _ _) (State.surfaces_raise rfl (by simp))

/-- A scan issues at most one quick write per address, and then goes on. -/
theorem scan_txns (as : List BusAddr) (s : State) {found : BusAddr → State → State} {notFound : State → State}
    (hfound : ∀ a s', (found a s').txns = s'.txns) (hnot : ∀ s', (notFound s').txns = s'.txns) :
    ∃ ts, (scan as s found notFound).txns = s.txns ++ ts ∧ ts.length ≤ as.length ∧
      ∀ x ∈ ts, ∃ a ∈ as, ∃ o, x = .quick a o := by
  obtain ⟨before, a, after, rfl, -, he⟩ | he := scan_cases as s found notFound <;> rw [he]
  · refine ⟨silentAt before ++ [.quick a .ack], by simp [hfound], by simp [silentAt], ?_⟩
    intro x hx
    obtain hx | hx := List.mem_append.mp hx
    · obtain ⟨b, hb, rfl⟩ := List.mem_map.mp hx
      exact ⟨b, by simp [hb], _, rfl⟩
    · exact ⟨a, by simp, .ack, List.mem_singleton.mp hx⟩
  · refine ⟨silentAt as, by simp [hnot], by simp [silentAt], ?_⟩
    intro x hx
    obtain ⟨b, hb, rfl⟩ := List.mem_map.mp hx
    exact ⟨b, hb, _, rfl⟩

/-- The body of PROBE and LOCATEP (40_bus_access.md R102, 44_driver_sequencer.md R161). -/
theorem BusTrace.scan {i : Instr} {s : State} {found : BusAddr → State → State} {notFound : State → State}
    (hi : i = .probe ∨ i = .locatep) (hfound : ∀ a s', (found a s').txns = s'.txns)
    (hnot : ∀ s', (notFound s').txns = s'.txns) :
    BusTrace i s (scan probeRange s.beginCommand found notFound) := by
  obtain ⟨ts, ht, hlen, hquick⟩ := scan_txns probeRange s.beginCommand hfound hnot
  rw [State.beginCommand_txns, List.nil_append] at ht
  exact .scans hi (ht ▸ hlen) (ht ▸ hquick)

/-! ### The trace of a command -/

theorem runCommand_busTrace {i : Instr} {s t : State} {body : State → State} (h : runCommand i body s = .next t)
    (hbody : BusTrace i s (body s.beginCommand)) : BusTrace i s t := by
  rw [runCommand_eq, Host.Outcome.next.injEq] at h
  subst h
  obtain ⟨-, -, -, he⟩ | ⟨f, he⟩ := prologue_cases i body s.beginCommand <;> rw [he]
  · exact hbody
  · exact .silent rfl

/-- Everything a command can put on the bus. -/
theorem exec_busTrace {i : Instr} {s t : State} (h : exec i s = .next t) : BusTrace i s t := by
  cases i with
  | rdw reg => exact runCommand_busTrace h (.memRead (.rdw reg) fun _ _ => rfl)
  | wrw reg v => exact runCommand_busTrace h (.memWrite (.wrw reg v) fun _ => rfl)
  | rdcur => exact runCommand_busTrace h (.memRead .rdcur fun _ _ => rfl)
  | rdpwr => exact runCommand_busTrace h (.memRead .rdpwr fun _ _ => rfl)
  | rdvbus => exact runCommand_busTrace h (.rdvbus s)
  | configure shunt imax brng pg badc sadc mode =>
    exact runCommand_busTrace h (.reconfigure (.configure shunt imax ⟨brng, pg, badc, sadc, mode⟩)
      (.configure shunt imax ⟨brng, pg, badc, sadc, mode⟩))
  | reconf shunt imax brng pg badc sadc mode =>
    exact runCommand_busTrace h (.reconfigure (.reconf shunt imax ⟨brng, pg, badc, sadc, mode⟩)
      (.reconf shunt imax ⟨brng, pg, badc, sadc, mode⟩))
  | probe => exact runCommand_busTrace h (.scan (.inl rfl) (fun _ _ => rfl) fun _ => rfl)
  | locatep => exact runCommand_busTrace h (.scan (.inr rfl) (fun _ _ => rfl) fun _ => rfl)
  | calcCal shunt imax brng pg badc sadc =>
    obtain ⟨r, hr⟩ := exec_calcCal_eq_respond shunt imax brng pg badc sadc
    rw [hr] at h
    exact runCommand_busTrace h (.silent rfl)
  | enccfg | deccfg | decs16 | decbv | cvti | cvtv | cvtp | locatea | enable | close | getst | getcal =>
    exact runCommand_busTrace h (.silent rfl)

/-! ### The place of a transaction in a trace -/

theorem pair_eq_append_cons {x y z : Txn} {before after : List Txn} (h : [x, y] = before ++ z :: after) :
    (before = [] ∧ z = x ∧ after = [y]) ∨ (before = [x] ∧ z = y ∧ after = []) := by
  obtain _ | ⟨u, _ | ⟨v, before⟩⟩ := before <;> simp_all

theorem FirstTxn.ne_quick {a : BusAddr} {i : Instr} {x : Txn} (h : FirstTxn a i x) (b : BusAddr) (o : QuickOutcome) :
    x ≠ .quick b o := by
  cases h <;> exact nofun

theorem SecondTxn.ne_quick {a : BusAddr} {i : Instr} {x y : Txn} (h : SecondTxn a i x y) (b : BusAddr)
    (o : QuickOutcome) : y ≠ .quick b o := by
  cases h <;> exact nofun

/-- R51: nothing follows a failed transaction, and the response is its failure. -/
theorem BusTrace.failure_is_last {i : Instr} {s t : State} (h : BusTrace i s t) {before after : List Txn} {x : Txn}
    {k : FailKind} (ht : t.txns = before ++ x :: after) (hk : txnFailure x = some k) :
    after = [] ∧ t.Surfaces x before.length := by
  cases h with
  | silent hts => simp [hts] at ht
  | scans hi hlen hquick =>
    obtain ⟨a, -, o, rfl⟩ := hquick x (by simp [ht])
    cases hk
  | one y hts hx hr =>
    obtain ⟨rfl, rfl, rfl⟩ : before = [] ∧ x = y ∧ after = [] := by
      simpa [hts, List.append_eq_singleton_iff] using ht.symm
    exact ⟨rfl, hr⟩
  | two y z hts hx hok hy hr =>
    obtain ⟨rfl, rfl, rfl⟩ | ⟨rfl, rfl, rfl⟩ := pair_eq_append_cons (hts ▸ ht)
    · simp [hok] at hk
    · exact ⟨rfl, hr⟩

/-- R51: a read after a read is the second of RDVBUS. -/
theorem BusTrace.second_read {i : Instr} {s t : State} (h : BusTrace i s t) {before after : List Txn} {a b : BusAddr}
    {r q : RegNum} {o p : ReadOutcome} (ht : t.txns = before ++ .read a r o :: after) (hmem : .read b q p ∈ after) :
    i = .rdvbus ∧ b = a ∧ r = 2#8 ∧ q = 2#8 ∧ before = [] ∧ after.length = 1 ∧
      ∃ b0 b1, o = .ok b0 b1 ∧ b1.getLsbD 1 = false := by
  cases h with
  | silent hts => simp [hts] at ht
  | scans hi hlen hquick =>
    obtain ⟨_, -, _, hread⟩ := hquick (.read a r o) (by simp [ht])
    cases hread
  | one y hts hx hr =>
    obtain ⟨-, -, rfl⟩ : before = [] ∧ .read a r o = y ∧ after = [] := by
      simpa [hts, List.append_eq_singleton_iff] using ht.symm
    cases hmem
  | two y z hts hx hok hy hr =>
    obtain ⟨rfl, rfl, rfl⟩ | ⟨-, -, rfl⟩ := pair_eq_append_cons (hts ▸ ht)
    · obtain rfl := List.mem_singleton.mp hmem
      cases hy with
      | rdvbus b0 b1 hbit => exact ⟨rfl, rfl, rfl, rfl, rfl, rfl, b0, b1, rfl, hbit⟩
    · cases hmem

/-! ### Legal transactions (20_memory.md R40, R41) -/

/-- A command that issues a transaction has passed the prologue. -/
theorem runs_of_mem_txns {i : Instr} {s t : State} {x : Txn} (h : exec i s = .next t) (hx : x ∈ t.txns) :
    operandFault i = none ∧ allowed s.blk i = true := by
  obtain ⟨body, he⟩ := exec_eq_runCommand i
  rw [he, runCommand_eq, Host.Outcome.next.injEq] at h
  subst h
  obtain ⟨hf, ha, -, -⟩ | ⟨f, he⟩ := prologue_cases i body s.beginCommand
  · exact ⟨hf, ha⟩
  · simp [he] at hx

theorem RegName.toNat_eq_of_ofNumber {r : RegNum} {n : RegName} (h : RegName.ofNumber r = some n) :
    r.toNat = n.number.toNat := by
  unfold RegName.ofNumber at h
  split at h <;> cases h <;> assumption

theorem rdw_register_of_operandFault {reg : RegNum} (h : operandFault (.rdw reg) = none) : reg.toNat ≤ 5 := by
  cases hn : RegName.ofNumber reg with
  | none => simp [operandFault, hn] at h
  | some n =>
    rw [RegName.toNat_eq_of_ofNumber hn]
    cases n <;> decide

theorem wrw_register_of_operandFault {reg : RegNum} {v : Word} (h : operandFault (.wrw reg v) = none) :
    reg.toNat = 0 ∨ reg.toNat = 5 := by
  cases hn : RegName.ofNumber reg with
  | none => simp [operandFault, hn] at h
  | some n =>
    have hw : n.writable = true := by simpa [operandFault, hn] using h
    rw [RegName.toNat_eq_of_ofNumber hn]
    cases n with
    | config | calib => decide
    | shuntv | busv | power | current => cases hw

/-- Register transactions need a resolved address (44_driver_sequencer.md R171). -/
theorem FirstTxn.driving {a : BusAddr} {i : Instr} {x : Txn} {b : Block} (h : FirstTxn a i x)
    (ha : allowed b i = true) : Claims.Driving b := by
  cases h with
  | rdw | wrw => simpa [allowed, or_assoc] using ha
  | rdcur | rdvbus | rdpwr => exact .inr (.inr (by simpa [allowed] using ha))
  | configure => exact .inl (by simpa [allowed] using ha)
  | reconf => exact .inr (by simpa [allowed] using ha)

theorem FirstTxn.legal {a : BusAddr} {i : Instr} {x : Txn} (h : FirstTxn a i x) (hr : InBusRange a)
    (hf : operandFault i = none) : LegalTxn a x := by
  cases h with
  | rdw reg o => exact ⟨hr, rfl, rdw_register_of_operandFault hf⟩
  | wrw reg v o => exact ⟨hr, rfl, wrw_register_of_operandFault hf⟩
  | rdcur | rdvbus | rdpwr => exact ⟨hr, rfl, by decide⟩
  | configure | reconf => exact ⟨hr, rfl, .inr rfl⟩

theorem SecondTxn.legal {a : BusAddr} {i : Instr} {x y : Txn} (h : SecondTxn a i x y) (hr : InBusRange a) :
    LegalTxn a y := by
  cases h with
  | rdvbus => exact ⟨hr, rfl, by decide⟩
  | configure | reconf => exact ⟨hr, rfl, .inl rfl⟩

theorem CommandEffect.addr_eq {i : Instr} {s t : State} (h : CommandEffect i s t) (hs : s.blk.fsm ≠ .uninit) :
    t.blk.addr = s.blk.addr := by
  cases h with
  | locates a ts r0 r1 r2 hi hfsm => exact absurd hfsm hs
  | leavesBlock | commits | enables | closes => rfl

theorem ne_uninit_of_driving {b : Block} (h : Claims.Driving b) : b.fsm ≠ .uninit := by
  obtain h | h | h := h <;> simp [h]

/-- A command that issues a register transaction in a state of the invariant has the resolved address in range, and
keeps it. -/
theorem FirstTxn.address {i : Instr} {s t : State} {x : Txn} (hx : FirstTxn s.blk.addr i x) (hs : s.blk.Inv)
    (h : exec i s = .next t) (ha : allowed s.blk i = true) : InBusRange s.blk.addr ∧ t.blk.addr = s.blk.addr := by
  have hd := hx.driving ha
  exact ⟨hs.resolved_in_range (hs.driving_resolved hd), (effect_of_exec h).addr_eq (ne_uninit_of_driving hd)⟩

theorem legal_of_exec {i : Instr} {s t : State} (hs : s.blk.Inv) (h : exec i s = .next t) :
    ∀ x ∈ t.txns, LegalTxn t.blk.addr x := by
  intro x hmem
  obtain ⟨hf, ha⟩ := runs_of_mem_txns h hmem
  cases exec_busTrace h with
  | silent ht => simp [ht] at hmem
  | scans hi hlen hquick =>
    obtain ⟨a, ha, o, rfl⟩ := hquick x hmem
    exact inBusRange_of_mem_probeRange ha
  | one x' ht hx hr =>
    obtain ⟨hrange, haddr⟩ := hx.address hs h ha
    rw [ht, List.mem_singleton] at hmem
    rw [haddr, hmem]
    exact hx.legal hrange hf
  | two x' y ht hx hok hy hr =>
    obtain ⟨hrange, haddr⟩ := hx.address hs h ha
    rw [ht, List.mem_pair] at hmem
    rw [haddr]
    obtain rfl | rfl := hmem
    · exact hx.legal hrange hf
    · exact hy.legal hrange

end Sys2Proof.Machine

namespace Sys2Proof.Proofs

open Sys2Proof.Machine Sys2Proof.Claims

/-- Settles O51. Only a command issues transactions; the rest of the history is the frame's. -/
theorem onlyLegalTransactionsReachTheBus : Obligations.OnlyLegalTransactionsReachTheBus := by
  intro s t hs h
  obtain ⟨-, rfl⟩ | ⟨-, rfl⟩ | ⟨w, sub, -, -, rfl⟩ | ⟨w, i, -, -, hx⟩ := step_cases h
  · exact ⟨[], by simp⟩
  · exact ⟨[], rfl, nofun⟩
  · exact ⟨[], rfl, nofun⟩
  · obtain ⟨r, hframe⟩ := frameOfEveryCommand _ _ _ hx
    refine ⟨t.txns, ?_, legal_of_exec (s := s.takeInput) hs hx⟩
    rw [hframe]
    rfl

/-- Settles O43, both clauses from what the command put on the bus. -/
theorem failedTransactionIsNeverRetried : Obligations.FailedTransactionIsNeverRetried := by
  intro i s t h
  refine ⟨fun before x after k ht hk => ?_, fun before a r o after b q p ht hmem => ?_⟩
  · obtain ⟨hafter, hr⟩ := (exec_busTrace h).failure_is_last ht hk
    exact ⟨hafter, hr k hk⟩
  · exact (exec_busTrace h).second_read ht hmem

/-- Settles O44, by the same. -/
theorem transactionBudgetOfEachCommand : Obligations.TransactionBudgetOfEachCommand := by
  intro i s t h
  cases exec_busTrace h with
  | silent ht => simp [ht]
  | scans hi hlen hquick =>
    refine ⟨?_, fun _ _ _ => hi⟩
    obtain rfl | rfl := hi <;> exact hlen
  | one x ht hx hr =>
    rw [ht]
    refine ⟨by cases hx <;> simp [Instr.mnemonic], fun a o hmem => ?_⟩
    exact absurd (List.mem_singleton.mp hmem).symm (hx.ne_quick a o)
  | two x y ht hx hok hy hr =>
    rw [ht]
    refine ⟨by cases hy <;> simp [Instr.mnemonic], fun a o hmem => ?_⟩
    obtain rfl | rfl := List.mem_pair.mp hmem
    · exact absurd rfl (hx.ne_quick a o)
    · exact absurd rfl (hy.ne_quick a o)

/-- Settles O46: the frame of a command, and the other three kinds of step directly. -/
theorem transactionsHappenInProgramOrder : Obligations.TransactionsHappenInProgramOrder := by
  intro s t h
  obtain ⟨hp, rfl⟩ | ⟨hp, rfl⟩ | ⟨w, sub, hp, -, rfl⟩ | ⟨w, i, hp, -, hx⟩ := step_cases h
  · exact ⟨fun _ => rfl, fun x rest hcons => by simp [hp] at hcons⟩
  all_goals
    obtain ⟨rest, hp⟩ := List.head?_eq_some_iff.mp hp
    refine ⟨by simp [hp], fun x rest' hcons => ?_⟩
    obtain ⟨rfl, rfl⟩ := List.cons.inj (hp.symm.trans hcons)
  · simp [hp]
  · simp [hp, refuseWord]
  · obtain ⟨r, hframe⟩ := frameOfEveryCommand _ _ _ hx
    rw [hframe]
    simp [hp]

/-- Settles O6. -/
theorem stepRunsThePresentedCommand : Obligations.StepRunsThePresentedCommand := by
  intro s w i hw hd
  obtain ⟨rest, hp⟩ : ∃ rest, s.port = .command w :: rest := List.head?_eq_some_iff.mp hw
  simp [step, hp, hd, State.takeInput]

/-- Settles O36, in numbers: the quotient and the remainder by 256. -/
theorem registerWordsAreBigEndian : Obligations.RegisterWordsAreBigEndian := by
  have hbytes (v : Word) : (hiByte v).toNat = v.toNat / 256 ∧ (loByte v).toNat = v.toNat % 256 := by
    have hv := v.isLt
    rw [hiByte_eq_ofNat, loByte_eq_ofNat, BitVec.toNat_ofNat, BitVec.toNat_ofNat]
    omega
  refine ⟨be16_toNat, hbytes, fun v => ?_, fun b0 b1 => ⟨?_, ?_⟩⟩ <;> apply BitVec.eq_of_toNat_eq
  · rw [be16_toNat, (hbytes v).1, (hbytes v).2]
    omega
  · rw [(hbytes _).1, be16_toNat]
    omega
  · rw [(hbytes _).2, be16_toNat]
    omega

/-- Settles O40: each effect of a command holds a response. -/
theorem everyCommandGivesAResponse : Obligations.EveryCommandGivesAResponse := by
  intro i s
  obtain ⟨t, ht, he⟩ := exec_effect i s
  refine ⟨t, ?_⟩
  cases he <;> exact ⟨_, ht, rfl⟩

end Sys2Proof.Proofs
/-! The decoder (30_encoding.md R90), said once: which words select a command (`decode_ok_cases`), and what every other
word answers. The round trips of the encoding and the table of opcodes are read off from it. -/

namespace Sys2Proof

open Sys2Proof.Machine Sys2Proof.Laws

/-! ### The opcode of a word (30_encoding.md R75) -/

theorem Mnemonic.ofOpcode_opcode (m : Mnemonic) : Mnemonic.ofOpcode m.opcode = some m := by
  cases m <;> rfl

theorem Mnemonic.opcode_of_ofOpcode {op : BitVec 8} {m : Mnemonic} (h : Mnemonic.ofOpcode op = some m) :
    op = m.opcode := by
  unfold Mnemonic.ofOpcode at h
  have hm := List.find?_some h
  exact (eq_of_beq hm).symm

theorem Mnemonic.ofOpcode_eq_none {op : BitVec 8} (h : ∀ m : Mnemonic, op ≠ m.opcode) : Mnemonic.ofOpcode op = none :=
  Option.eq_none_iff_forall_ne_some.mpr fun m hm => h m (Mnemonic.opcode_of_ofOpcode hm)

/-! ### The operands that make a word illegal (30_encoding.md R90, cases 3 to 5) -/

theorem RegName.ofNumber_eq_none_iff (r : RegNum) : RegName.ofNumber r = none ↔ 5 < r.toNat := by
  unfold RegName.ofNumber
  split <;> grind

theorem RegName.writable_iff (n : RegName) : n.writable = true ↔ n.number.toNat = 0 ∨ n.number.toNat = 5 := by
  cases n <;> decide

theorem operandFault_rdw (reg : RegNum) :
    operandFault (.rdw reg) = if 5 < reg.toNat then some .badRegister else none := by
  cases hn : RegName.ofNumber reg with
  | none => simp [operandFault, hn, (RegName.ofNumber_eq_none_iff reg).mp hn]
  | some n =>
    have hreg : ¬ 5 < reg.toNat := by simp [← RegName.ofNumber_eq_none_iff, hn]
    simp [operandFault, hn, hreg]

theorem operandFault_wrw (reg : RegNum) (val : Word) :
    operandFault (.wrw reg val) = if 5 < reg.toNat then some .badRegister
      else if 1 ≤ reg.toNat ∧ reg.toNat ≤ 4 then some .readOnlyRegister else none := by
  cases hn : RegName.ofNumber reg with
  | none => simp [operandFault, hn, (RegName.ofNumber_eq_none_iff reg).mp hn]
  | some n =>
    simp only [operandFault, hn, RegName.toNat_eq_of_ofNumber hn]
    cases n <;> rfl

theorem operandFault_locatea (addr : BusAddr) :
    operandFault (.locatea addr) = if addr.toNat < 0x03 ∨ 0x76 < addr.toNat then some .badAddress else none := by
  have hlo : Config.probeLo.toNat = 0x03 := rfl
  have hhi : Config.probeHi.toNat = 0x76 := rfl
  simp only [operandFault, BitVec.lt_def, hlo, hhi, Bool.or_eq_true, decide_eq_true_eq]

/-- An instruction is a command exactly when no operand makes its word illegal. -/
theorem operandFault_eq_none_iff (i : Instr) : operandFault i = none ↔ WellFormed i := by
  cases i with
  | rdw reg => simp [operandFault_rdw, WellFormed, Instr.wellFormed]
  | wrw reg val =>
    simp only [operandFault_wrw, WellFormed, Instr.wellFormed, decide_eq_true_eq]
    grind
  | locatea addr => simp [operandFault_locatea, WellFormed, Instr.wellFormed, Config.probeLo, Config.probeHi]
  | _ => exact iff_of_true rfl rfl

/-- The operands read from a word are at fault as 30_encoding.md R90 says of the word. -/
theorem operandFault_readOperands (m : Mnemonic) (w : CmdWord) :
    operandFault (readOperands m w) = Claims.operandSub m w := by
  cases m with
  | rdw => simp [readOperands, operandFault_rdw, Claims.operandSub]
  | wrw => simp [readOperands, operandFault_wrw, Claims.operandSub]
  | locatea => simp [readOperands, operandFault_locatea, Claims.operandSub]
  | _ => simp [readOperands, operandFault, Claims.operandSub]

@[simp] theorem mnemonic_readOperands (m : Mnemonic) (w : CmdWord) : (readOperands m w).mnemonic = m := by
  cases m <;> rfl

/-! ### The five cases of the decoder -/

section

variable {m : Mnemonic} {w : CmdWord}

theorem decode_of_undefined (h : ∀ m : Mnemonic, opField w ≠ m.opcode) : decode w = .error .undefinedOpcode := by
  simp [decode, Mnemonic.ofOpcode_eq_none h]

theorem decode_of_mustBeZero (ho : opField w = m.opcode) (hz : w &&& m.format.mustBeZero ≠ 0#64) :
    decode w = .error .mustBeZero := by
  simp [decode, ho, Mnemonic.ofOpcode_opcode, hz]

theorem decode_of_operandFault {sub : IllegalSub} (ho : opField w = m.opcode) (hz : w &&& m.format.mustBeZero = 0#64)
    (hf : operandFault (readOperands m w) = some sub) : decode w = .error sub := by
  simp [decode, ho, Mnemonic.ofOpcode_opcode, hz, hf]

theorem decode_of_wellFormed (ho : opField w = m.opcode) (hz : w &&& m.format.mustBeZero = 0#64)
    (hf : operandFault (readOperands m w) = none) : decode w = .ok (readOperands m w) := by
  simp [decode, ho, Mnemonic.ofOpcode_opcode, hz, hf]

/-- A word that decodes passed every test of its mnemonic's row. -/
theorem decode_ok_cases {i : Instr} (h : decode w = .ok i) :
    ∃ m : Mnemonic, opField w = m.opcode ∧ w &&& m.format.mustBeZero = 0#64 ∧
      operandFault (readOperands m w) = none ∧ readOperands m w = i := by
  cases hm : Mnemonic.ofOpcode (opField w) with
  | none => simp [decode, hm] at h
  | some m =>
    have ho := Mnemonic.opcode_of_ofOpcode hm
    by_cases hz : w &&& m.format.mustBeZero = 0#64
    · cases hf : operandFault (readOperands m w) with
      | some sub => simp [decode_of_operandFault ho hz hf] at h
      | none =>
        rw [decode_of_wellFormed ho hz hf] at h
        exact ⟨m, ho, hz, hf, Except.ok.inj h⟩
    · simp [decode_of_mustBeZero ho hz] at h

end

/-! ### The words the encoder makes -/

section

variable (i : Instr)

theorem opField_encode : opField (encode i) = i.mnemonic.opcode := by
  cases i <;> exact opField_commandWord _ _ _

open EncodesZeroInUnnamedBits in
theorem encode_and_mustBeZero : encode i &&& i.mnemonic.format.mustBeZero = 0#64 := by
  cases i
  exacts [rdw _, wrw _ _, probe, enccfg _ _ _ _ _, deccfg _, decs16 _, decbv _, cvti _ _, cvtv _, cvtp _ _,
    calcCal _ _ _ _ _ _, locatea _, locatep, configure _ _ _ _ _ _ _, enable, rdcur, rdvbus, rdpwr,
    reconf _ _ _ _ _ _ _, close, getst, getcal]

open ReadsItsOperandsBack in
theorem readOperands_encode : readOperands i.mnemonic (encode i) = i := by
  cases i
  exacts [rdw _, wrw _ _, probe, enccfg _ _ _ _ _, deccfg _, decs16 _, decbv _, cvti _ _, cvtv _, cvtp _ _,
    calcCal _ _ _ _ _ _, locatea _, locatep, configure _ _ _ _ _ _ _, enable, rdcur, rdvbus, rdpwr,
    reconf _ _ _ _ _ _ _, close, getst, getcal]

end

end Sys2Proof

namespace Sys2Proof.Proofs

open Sys2Proof Sys2Proof.Machine Sys2Proof.Claims Sys2Proof.Laws

/-- Settles O1: the word carries its opcode, is zero where its format names nothing, and gives its operands back. -/
theorem decodeOfEncodeGivesInstructionBack : Obligations.DecodeOfEncodeGivesInstructionBack := by
  intro i hi
  have hback := readOperands_encode i
  have hf : operandFault (readOperands i.mnemonic (encode i)) = none := by
    rw [hback, operandFault_eq_none_iff]
    exact hi
  rw [decode_of_wellFormed (opField_encode i) (encode_and_mustBeZero i) hf, hback]

/-- Settles O2: a word that passed the tests of its row is its operand fields laid out, and that is the encoder. -/
theorem encodeOfDecodeGivesWordBack : Obligations.EncodeOfDecodeGivesWordBack := by
  intro w i h
  obtain ⟨m, ho, hz, hf, rfl⟩ := decode_ok_cases h
  refine ⟨?_, (operandFault_eq_none_iff _).mp hf⟩
  calc encode (readOperands m w)
    _ = formatWord m.format m w := encode_readOperands_eq_formatWord m w
    _ = w := formatWord_eq m.format m w ho hz

/-- Settles O3, by running the decoder on the five words. -/
theorem writtenOutWordsDecode : Obligations.WrittenOutWordsDecode :=
  ⟨rfl, rfl, rfl, rfl, rfl⟩

end Sys2Proof.Proofs
/-! The rows of the opcode table (30_encoding.md R76) and the assembler's operands (R93): a row's mask and match say
what the decoder tests, and a word that fails is refused in any state (R90). -/

namespace Sys2Proof

open Sys2Proof.Machine Sys2Proof.Laws

/-! ### The rows of the opcode table -/

theorem exists_row (m : Mnemonic) : ∃ row ∈ Claims.opcodeTable, row.1 = m := by
  cases m <;> decide

/-- The mask of a row is the opcode field and the bits its format does not name; its match is the opcode alone. -/
theorem mask_and_match_of_row {row : Mnemonic × CmdWord × CmdWord} (h : row ∈ Claims.opcodeTable) :
    row.2.1 = 0xFF00000000000000#64 ||| row.1.format.mustBeZero ∧ row.2.2 = row.1.opcode.setWidth 64 <<< 56 := by
  revert row
  decide

theorem and_opcodeMask (w : CmdWord) : w &&& 0xFF00000000000000#64 = (opField w).setWidth 64 <<< 56 := by
  apply BitVec.eq_of_getLsbD_eq
  intro j hj
  interval_cases j <;> simp [opField]

theorem opField_shiftLeft (op : BitVec 8) : opField (op.setWidth 64 <<< 56) = op := by
  apply BitVec.eq_of_getLsbD_eq
  intro j hj
  interval_cases j <;> simp [opField]

theorem opcode_and_mustBeZero (m : Mnemonic) : (m.opcode.setWidth 64 <<< 56) &&& m.format.mustBeZero = 0#64 := by
  cases m <;> rfl

/-- A word with the opcode of a row matches the row when the bits its format does not name are zero. -/
theorem matches_row_iff {w : CmdWord} {m : Mnemonic} (ho : opField w = m.opcode) :
    w &&& (0xFF00000000000000#64 ||| m.format.mustBeZero) = m.opcode.setWidth 64 <<< 56 ↔
      w &&& m.format.mustBeZero = 0#64 := by
  rw [BitVec.and_or_distrib_left, and_opcodeMask, ho]
  refine ⟨fun h => ?_, fun h => by rw [h, BitVec.or_zero]⟩
  have hzero := congrArg (· &&& m.format.mustBeZero) h
  simpa [BitVec.and_or_distrib_right, BitVec.and_assoc, opcode_and_mustBeZero] using hzero

/-! ### A step on an illegal word (30_encoding.md R90) -/

theorem step_of_illegal {s : State} {w : CmdWord} {sub : IllegalSub} (hw : Claims.Presents s w)
    (hd : decode w = .error sub) :
    step s = .next (s.takeInput.afterCommand [] (.err .illegalCommandError sub.code)) := by
  obtain ⟨rest, hp⟩ : ∃ rest, s.port = .command w :: rest := List.head?_eq_some_iff.mp hw
  simp only [step, hp, hd]
  rfl

/-! ### Operand numbers (30_encoding.md R93) -/

/-- The number of an operand fits the operand's field and gives the operand back. -/
@[simp] theorem operandField_toNat {w : Nat} (x : BitVec w) : operandField w x.toNat = some x := by
  simp [operandField, x.isLt]

end Sys2Proof

namespace Sys2Proof.Proofs

open Sys2Proof.Machine Sys2Proof.Claims

/-- Settles O4: a row's mask and match are the tests of `decode`, its `operandSub` the fault of the operands read. -/
theorem everyWordIsOneCommandOrIllegal : Obligations.EveryWordIsOneCommandOrIllegal := by
  intro w
  refine ⟨fun h => ?undefined, fun row hrow ho => ?row, fun s sub hw hd => ?illegalStep, ?undefinedCount⟩
  case undefined =>
    refine decode_of_undefined fun m ho => ?_
    obtain ⟨row, hrow, rfl⟩ := exists_row m
    refine h row hrow ?_
    rw [(mask_and_match_of_row hrow).2]
    exact ho.trans (opField_shiftLeft _).symm
  case row =>
    obtain ⟨hmask, hmatch⟩ := mask_and_match_of_row hrow
    rw [hmatch] at ho
    replace ho : opField w = row.1.opcode := ho.trans (opField_shiftLeft _)
    simp only [hmask, hmatch, ne_eq, matches_row_iff ho, ← operandFault_readOperands]
    exact ⟨decode_of_mustBeZero ho, fun sub hz hf => decode_of_operandFault ho hz hf,
      fun hz hf => ⟨_, decode_of_wellFormed ho hz hf, mnemonic_readOperands row.1 w⟩⟩
  case illegalStep =>
    rw [step_of_illegal hw hd]
    cases sub <;> rfl
  case undefinedCount => decide +kernel

/-- Settles O5: each operand number gives its field back, and `assemble` takes them in the order of `operands`. -/
theorem assemblingOperandsGivesInstructionBack : Obligations.AssemblingOperandsGivesInstructionBack := by
  intro i
  cases i <;> simp [assemble, Instr.mnemonic, Instr.operands]

end Sys2Proof.Proofs
/-! The next state of the commands that INIT, RDSHUNT and RDCFG issue (44_driver_sequencer.md R160 to R163,
40_bus_access.md R100): every refusal of the prologue for any command, and what the bodies do once it lets them run. -/

namespace Sys2Proof.Machine

open Sys2Proof.Claims

/-! ### What the prologue refuses (60_exceptions.md R204) -/

section

variable {i : Instr} {s : State}

theorem refusedWith_of_prologue {f : Failure}
    (h : ∀ body, prologue i body s.beginCommand = s.beginCommand.raise f) : RefusedWith i s f.status f.einfo := by
  obtain ⟨body, he⟩ := exec_eq_runCommand i
  rw [RefusedWith, he, runCommand_eq, h]
  rfl

theorem refusedWith_illegalCommand {sub : IllegalSub} (hf : operandFault i = some sub) :
    RefusedWith i s .illegalCommandError sub.code :=
  refusedWith_of_prologue (f := .illegalCommand sub) fun body => by simp [prologue, hf]

theorem refusedWith_driverClosed (hf : operandFault i = none) (hn : needsHandle i = true) (hc : s.blk.fsm = .closed) :
    RefusedWith i s .driverClosedError 0#64 :=
  refusedWith_of_prologue (f := .driverClosed) fun body => by simp [prologue, hf, hn, hc]

theorem einfo_wrongState (f : Fsm) : (Failure.wrongState f).einfo = BitVec.ofNat 64 (fsmNumber f) := by
  cases f <;> rfl

theorem refusedWith_wrongState (hf : operandFault i = none) (hc : s.blk.fsm ≠ .closed) (ha : allowed s.blk i = false) :
    RefusedWith i s .wrongStateError (BitVec.ofNat 64 (fsmNumber s.blk.fsm)) := by
  rw [← einfo_wrongState]
  exact refusedWith_of_prologue (f := .wrongState s.blk.fsm) fun body => by simp [prologue, hf, hc, ha]

theorem operandFault_locatea_of_inBusRange {a : BusAddr} (ha : InBusRange a) : operandFault (.locatea a) = none := by
  rw [operandFault_locatea, if_neg]
  omega

theorem operandFault_locatea_of_not_inBusRange {a : BusAddr} (ha : ¬ InBusRange a) :
    operandFault (.locatea a) = some .badAddress := by
  rw [operandFault_locatea, if_pos]
  omega

theorem ne_closed_of_driving {b : Block} (h : Driving b) : b.fsm ≠ .closed := by
  obtain h | h | h := h <;> simp [h]

end

/-! ### The environment's answers along a command -/

theorem State.answer_recordAll (s : State) (ts : List Txn) (q : Request) :
    (s.recordAll ts).answer q = s.answerAfter ts q := by
  simp [State.answer, State.answerAfter, State.recordAll_eq, State.history]

/-- The answers after a command that issued `ts` are the answers `ts` later. -/
@[simp] theorem State.answerAfter_afterCommand (s : State) (ts us : List Txn) (r : Response) (q : Request) :
    (s.afterCommand ts r).answerAfter us q = s.answerAfter (ts ++ us) q := by
  simp [State.answerAfter, State.history]

@[simp] theorem State.answerAfter_withBlk (s : State) (b : Block) (us : List Txn) (q : Request) :
    (s.withBlk b).answerAfter us q = s.answerAfter us q := rfl

@[simp] theorem State.history_afterCommand (s : State) (ts : List Txn) (r : Response) :
    (s.afterCommand ts r).history = s.history ++ ts := by
  simp [State.history]

/-! ### The scan of PROBE and LOCATEP (40_bus_access.md R102) -/

theorem probeRange_getElem {n : Nat} (h : n < probeRange.length) : probeRange[n] = BitVec.ofNat 7 (3 + n) := by
  simp [probeRange, Config.probeLo]

theorem silentScan_succ (n : Nat) : silentScan (n + 1) = silentScan n ++ [.quick (BitVec.ofNat 7 (3 + n)) .noack] := by
  simp [silentScan, List.range_succ]

variable {found : BusAddr → State → State} {notFound : State → State} {s : State} {n : Nat}

/-- A scan goes on past the addresses that do not acknowledge. -/
theorem scan_of_silentBelow (hn : n ≤ probeRange.length) (h : SilentBelow s n) :
    scan probeRange s found notFound = scan (probeRange.drop n) (s.recordAll (silentScan n)) found notFound := by
  induction n with
  | zero => rfl
  | succ n ih =>
    have hlt : n < probeRange.length := hn
    have hno : quickOutcome ((s.recordAll (silentScan n)).answer (.quick (BitVec.ofNat 7 (3 + n)))) = .noack := by
      rw [State.answer_recordAll]
      exact h n (Nat.lt_succ_self n)
    rw [ih hlt.le fun k hk => h k (Nat.lt_succ_of_lt hk), List.drop_eq_getElem_cons hlt, probeRange_getElem]
    simp only [scan, busQuick, hno]
    rw [State.record_recordAll, ← silentScan_succ]

theorem scan_of_acksAt (hn : n < probeRange.length) (hsilent : SilentBelow s n) (hack : AcksAt s n) :
    scan probeRange s found notFound = found (BitVec.ofNat 7 (3 + n))
      (s.recordAll (silentScan n ++ [.quick (BitVec.ofNat 7 (3 + n)) .ack])) := by
  have hyes : quickOutcome ((s.recordAll (silentScan n)).answer (.quick (BitVec.ofNat 7 (3 + n)))) = .ack := by
    rw [State.answer_recordAll]
    exact hack
  rw [scan_of_silentBelow hn.le hsilent, List.drop_eq_getElem_cons hn, probeRange_getElem]
  simp only [scan, busQuick, hyes]
  rw [State.record_recordAll]

theorem scan_of_silent (hsilent : SilentBelow s 116) :
    scan probeRange s found notFound = notFound (s.recordAll (silentScan 116)) :=
  scan_of_silentBelow (n := 116) (by decide) hsilent


/-! ### LOCATEA, LOCATEP and ENABLE where they are allowed (44_driver_sequencer.md R160, R161, R163) -/

theorem exec_locatea_of_uninit {a : BusAddr} (hu : s.blk.fsm = .uninit) (ha : InBusRange a) :
    exec (.locatea a) s =
      .next ((s.afterCommand [] (.ok (BitVec.ofNat 64 a.toNat) 0#32 0#32)).withBlk (s.blk.locate a)) :=
  runCommand_of_allowed _ (operandFault_locatea_of_inBusRange ha) (by simp [allowed, hu])

theorem exec_locatep_eq_scan (hu : s.blk.fsm = .uninit) :
    exec .locatep s = .next (scan probeRange s.beginCommand
      (fun a s => (s.withBlk (s.blk.locate a)).ok (zext64 a.toNat) 1#32 0#32) (fun s => s.raise .deviceNotFound)) :=
  runCommand_of_allowed _ rfl (by simp [allowed, hu])

theorem exec_locatep_of_acksAt (hu : s.blk.fsm = .uninit) (hn : n < probeRange.length) (hsilent : SilentBelow s n)
    (hack : AcksAt s n) :
    exec .locatep s = .next ((s.afterCommand (silentScan n ++ [.quick (BitVec.ofNat 7 (3 + n)) .ack])
      (.ok (BitVec.ofNat 64 (3 + n)) 1#32 0#32)).withBlk (s.blk.locate (BitVec.ofNat 7 (3 + n)))) := by
  have hlen : probeRange.length = 116 := by decide
  have haddr : (BitVec.ofNat 7 (3 + n)).toNat = 3 + n := Nat.mod_eq_of_lt (by omega)
  rw [exec_locatep_eq_scan hu, scan_of_acksAt hn (by simpa [SilentBelow] using hsilent) (by simpa [AcksAt] using hack),
    haddr, ← State.respond_withBlk_recordAll_beginCommand]
  simp [State.ok, zext64]

theorem exec_locatep_of_silent (hu : s.blk.fsm = .uninit) (hsilent : SilentBelow s 116) :
    exec .locatep s = .next (s.afterCommand (silentScan 116) (.err .deviceNotFoundError 0#64)) := by
  rw [exec_locatep_eq_scan hu, scan_of_silent (by simpa [SilentBelow] using hsilent),
    ← State.respond_recordAll_beginCommand]
  rfl

theorem exec_enable_of_configured (hc : s.blk.fsm = .configured) :
    exec .enable s = .next ((s.afterCommand [] (.ok 0#64 0#32 0#32)).withBlk (s.blk.withFsm .ready)) :=
  runCommand_of_allowed _ rfl (by simp [allowed, hc])

/-! ### CONFIGURE and RECONF where they are allowed (44_driver_sequencer.md R162) -/

theorem writeRequest_toNat (a : BusAddr) (r : RegNum) (v : Word) :
    writeRequest a r v.toNat = .write a r (hiByte v) (loByte v) := by
  rw [writeRequest, hiByte_eq_ofNat, loByte_eq_ofNat]

theorem writeTxn_toNat (a : BusAddr) (r : RegNum) (v : Word) (o : WriteOutcome) :
    writeTxn a r v.toNat o = .write a r (hiByte v) (loByte v) o := by
  rw [writeTxn, hiByte_eq_ofNat, loByte_eq_ofNat]

section

variable {shunt imax : BitVec 16} {c : CfgFields} {after : Block → Block} {cs : CalState}

theorem reconfigure_of_refused {why : CalFault} (h : computeCal shunt imax c.brng c.pg c.badc c.sadc = .error why) :
    reconfigure shunt imax c after s = s.raise (.invalidCalibration why) := by
  simp only [reconfigure, h]

variable (hcal : computeCal shunt imax c.brng c.pg c.badc c.sadc = .ok cs)
include hcal

theorem reconfigure_of_first_fail {k : FailKind} (h5 : s.answer (writeRequest s.blk.addr 5#8 cs.cal.toNat) = .fail k) :
    reconfigure shunt imax c after s =
      (s.recordAll [writeTxn s.blk.addr 5#8 cs.cal.toNat (.fail k)]).raise (.busIO k s.txns.length) := by
  rw [writeRequest_toNat] at h5
  simp only [reconfigure, hcal, memWrite_of_fail _ h5, writeTxn_toNat]
  rfl

variable {b0 b1 : Byte} (h5 : s.answer (writeRequest s.blk.addr 5#8 cs.cal.toNat) = .ok b0 b1)
include h5

theorem reconfigure_of_second_fail {k : FailKind}
    (h0 : s.answerAfter [writeTxn s.blk.addr 5#8 cs.cal.toNat .ok]
      (writeRequest s.blk.addr 0#8 (encodeConfig c).toNat) = .fail k) :
    reconfigure shunt imax c after s =
      (s.recordAll [writeTxn s.blk.addr 5#8 cs.cal.toNat .ok,
        writeTxn s.blk.addr 0#8 (encodeConfig c).toNat (.fail k)]).raise (.busIO k (s.txns.length + 1)) := by
  rw [writeRequest_toNat] at h5
  rw [writeRequest_toNat, ← State.answer_record, writeTxn_toNat] at h0
  simp only [reconfigure, hcal, memWrite_of_ok _ h5, writeTxn_toNat]
  rw [memWrite_of_fail _ h0]
  simp

theorem reconfigure_of_ok {c0 c1 : Byte}
    (h0 : s.answerAfter [writeTxn s.blk.addr 5#8 cs.cal.toNat .ok]
      (writeRequest s.blk.addr 0#8 (encodeConfig c).toNat) = .ok c0 c1) :
    reconfigure shunt imax c after s =
      ((s.recordAll [writeTxn s.blk.addr 5#8 cs.cal.toNat .ok,
        writeTxn s.blk.addr 0#8 (encodeConfig c).toNat .ok]).withBlk
          (after (s.blk.commitShadow cs (encodeConfig c)))).ok
        (BitVec.ofNat 64 (encodeConfig c).toNat) (BitVec.ofNat 32 cs.cal.toNat) 0#32 := by
  rw [writeRequest_toNat] at h5
  rw [writeRequest_toNat, ← State.answer_record, writeTxn_toNat] at h0
  simp only [reconfigure, hcal, memWrite_of_ok _ h5, writeTxn_toNat]
  rw [memWrite_of_ok _ h0]
  rfl

end

section

variable {shunt imax : BitVec 16} (c : CfgFields)

theorem computeCal_of_zero (hz : shunt = 0#16 ∨ imax = 0#16) :
    computeCal shunt imax c.brng c.pg c.badc c.sadc = .error .zeroInput := by
  rw [computeCal_eq, computeCalFor, if_pos hz]

variable (hs : shunt ≠ 0#16) (hi : imax ≠ 0#16)
include hs hi

theorem computeCal_of_tooBig (hq : 65535 < quotient shunt) :
    computeCal shunt imax c.brng c.pg c.badc c.sadc = .error .quotientTooBig := by
  rw [computeCal_eq, computeCalFor, if_neg (not_or.mpr ⟨hs, hi⟩)]
  exact if_pos hq

/-- The quotient fits the Calibration register. -/
theorem computeCal_of_fits (hq : quotient shunt ≤ 65535) :
    ∃ cal : Word, cal.toNat = quotient shunt ∧
      computeCal shunt imax c.brng c.pg c.badc c.sadc = .ok { cal := cal, ilsb := 100#16, plsb := 2000#24 } := by
  refine ⟨BitVec.ofNat 16 (quotient shunt), Nat.mod_eq_of_lt (Nat.lt_succ_of_le hq), ?_⟩
  rw [computeCal_eq, computeCalFor, if_neg (not_or.mpr ⟨hs, hi⟩)]
  exact if_neg (Nat.not_lt.mpr hq)

end

/-- A command whose body is `Reconfigure` and that leaves the driver in the state `f`. -/
theorem reconfigures_of_exec {i : Instr} {shunt imax : BitVec 16} {c : CfgFields} {after : Block → Block} {f : Fsm}
    (he : exec i s = .next (reconfigure shunt imax c after s.beginCommand))
    (hafter : ∀ cs w, after (s.blk.commitShadow cs w) = (s.blk.commitShadow cs w).withFsm f) :
    Reconfigures i s shunt imax (cfgNumber c.brng c.pg c.badc c.sadc c.mode) f := by
  refine ⟨fun hz => ?zeroInput, fun hs hi hq => ?quotientTooBig, fun hs hi hq => ?writes⟩
  case zeroInput =>
    rw [RefusedWith, he, reconfigure_of_refused (computeCal_of_zero c hz)]
    rfl
  case quotientTooBig =>
    rw [RefusedWith, he, reconfigure_of_refused (computeCal_of_tooBig c hs hi hq)]
    rfl
  case writes =>
    have hword (v : Word) : BitVec.ofNat 16 v.toNat = v := by simp
    obtain ⟨cal, hquot, hcal⟩ := computeCal_of_fits c hs hi hq
    simp only [← hquot, ← encodeConfig_toNat, he]
    refine ⟨fun k h5 => ?_, fun b0 b1 k h5 h0 => ?_, fun b0 b1 c0 c1 h5 h0 => ?_⟩
    · rw [reconfigure_of_first_fail (s := s.beginCommand) hcal ((State.answer_beginCommand s _).trans h5),
        ← einfo_busIO (by decide)]
      exact congrArg _ (State.respond_recordAll_beginCommand ..)
    · rw [reconfigure_of_second_fail (s := s.beginCommand) hcal ((State.answer_beginCommand s _).trans h5)
        ((State.answerAfter_beginCommand s _ _).trans h0), ← einfo_busIO (by decide)]
      exact congrArg _ (State.respond_recordAll_beginCommand ..)
    · rw [reconfigure_of_ok (s := s.beginCommand) hcal ((State.answer_beginCommand s _).trans h5)
        ((State.answerAfter_beginCommand s _ _).trans h0), State.beginCommand_blk, hafter,
        hword, hword]
      exact congrArg _ (State.respond_withBlk_recordAll_beginCommand ..)

theorem reconfigures_configure {shunt imax : BitVec 16} {brng : BitVec 1} {pg : BitVec 2} {badc sadc : BitVec 4}
    {mode : BitVec 3} (hl : s.blk.fsm = .located) :
    Reconfigures (.configure shunt imax brng pg badc sadc mode) s shunt imax (cfgNumber brng pg badc sadc mode)
      .configured :=
  reconfigures_of_exec (c := ⟨brng, pg, badc, sadc, mode⟩) (after := fun b => b.withFsm .configured)
    (runCommand_of_allowed _ rfl (by simp [allowed, hl])) fun _ _ => rfl

end Sys2Proof.Machine
/-! The host's procedures INIT.A, INIT.P, RDSHUNT and RDCFG (30_encoding.md R94), from the next states of the commands
they issue: a run of INIT that goes on after a command is a run begun in the state this command left. -/

namespace Sys2Proof.Machine

open Sys2Proof.Claims

/-! ### Issuing commands until one fails -/

section

variable {i : Instr} {rest : List Instr} {s t : State}

theorem issueUntilFailure_of_ok {r0 : BitVec 64} {r1 r2 : BitVec 32} (h : exec i s = .next t)
    (hr : t.resp = some (.ok r0 r1 r2)) : issueUntilFailure (i :: rest) s = issueUntilFailure rest t := by
  simp only [issueUntilFailure, h, hr]

theorem issueUntilFailure_of_err {status : ErrStatus} {einfo : BitVec 64} (h : exec i s = .next t)
    (hr : t.resp = some (.err status einfo)) : issueUntilFailure (i :: rest) s = .next t := by
  simp only [issueUntilFailure, h, hr]

end

/-! ### Where a procedure ends -/

section

variable {s : State} {ts : List Txn} {r : Response} {b : Block}

theorem endsWith_afterCommand : EndsWith (.next (s.afterCommand ts r)) s ts r s.blk :=
  ⟨_, rfl, rfl, rfl, State.history_afterCommand s ts r, rfl, rfl⟩

theorem endsWith_withBlk : EndsWith (.next ((s.afterCommand ts r).withBlk b)) s ts r b :=
  ⟨_, rfl, rfl, rfl, State.history_afterCommand s ts r, rfl, rfl⟩

/-- A procedure that goes on in the state a command left: the transactions of both, in order. -/
theorem endsWith_of_afterCommand {out : Host.Outcome State Fault Refusal} {pre : List Txn} {r' : Response} {b' : Block}
    (h : EndsWith out ((s.afterCommand pre r').withBlk b') ts r b) : EndsWith out s (pre ++ ts) r b := by
  obtain ⟨t, rfl, hresp, hblk, hhist, henv, hport⟩ := h
  refine ⟨t, rfl, hresp, hblk, ?_, ?_, hport⟩
  · rw [hhist, ← List.append_assoc, ← State.history_afterCommand s pre r']
    rfl
  · simpa using henv

theorem endsWith_of_refused {out : Host.Outcome State Fault Refusal} {pre : List Txn} {r' : Response} {b' : Block}
    (h : EndsWith out ((s.afterCommand pre r').withBlk b') [] r b) : EndsWith out s pre r b :=
  List.append_nil pre ▸ endsWith_of_afterCommand h

end

/-! ### INIT from the resolved address on -/

/-- CONFIGURE and ENABLE, issued in the state `t` that a command with the transactions `pre` left in LOCATED at
`addr`. -/
theorem configuresAndEnables_of_located (s : State) (pre : List Txn) (r : Response) (addr : BusAddr)
    (shunt imax : BitVec 16) (brng : BitVec 1) (pg : BitVec 2) (badc sadc : BitVec 4) (mode : BitVec 3) :
    ConfiguresAndEnables
      (issueUntilFailure [.configure shunt imax brng pg badc sadc mode, .enable]
        ((s.afterCommand pre r).withBlk (s.blk.locate addr)))
      s pre addr shunt imax (cfgNumber brng pg badc sadc mode) := by
  obtain ⟨hzero, hbig, hwrites⟩ := reconfigures_configure (shunt := shunt) (imax := imax) (brng := brng) (pg := pg)
    (badc := badc) (sadc := sadc) (mode := mode) (s := (s.afterCommand pre r).withBlk (s.blk.locate addr)) rfl
  refine ⟨fun hz => ?_, fun hs hi hq => ?_, fun hs hi hq => ?_⟩
  · rw [issueUntilFailure_of_err (hzero hz) rfl]
    exact endsWith_of_refused endsWith_afterCommand
  · rw [issueUntilFailure_of_err (hbig hs hi hq) rfl]
    exact endsWith_of_refused endsWith_afterCommand
  · obtain ⟨hfirst, hsecond, hboth⟩ := hwrites hs hi hq
    refine ⟨fun k h5 => ?_, fun b0 b1 k h5 h0 => ?_, fun b0 b1 c0 c1 h5 h0 => ?_⟩
    · rw [issueUntilFailure_of_err (hfirst k (by simpa [State.answer] using h5)) rfl]
      exact endsWith_of_afterCommand endsWith_afterCommand
    · rw [issueUntilFailure_of_err (hsecond b0 b1 k (by simpa [State.answer] using h5) (by simpa using h0)) rfl]
      exact endsWith_of_afterCommand endsWith_afterCommand
    · rw [issueUntilFailure_of_ok (hboth b0 b1 c0 c1 (by simpa [State.answer] using h5) (by simpa using h0)) rfl,
        issueUntilFailure_of_ok (exec_enable_of_configured rfl) rfl]
      exact endsWith_of_afterCommand (endsWith_of_afterCommand endsWith_withBlk)

/-! ### RDW, DECS16 and DECCFG -/

section

variable {s : State} {reg : RegNum} (hreg : reg.toNat ≤ 5) (hd : Driving s.blk)
include hreg hd

theorem exec_rdw_eq_memRead :
    exec (.rdw reg) s = .next (memRead reg s.beginCommand fun v s => s.ok (zext64 v.toNat) 0#32 0#32) := by
  have hf : operandFault (.rdw reg) = none := by
    rw [operandFault_rdw, if_neg (Nat.not_lt.mpr hreg)]
  refine runCommand_of_allowed _ hf ?_
  obtain h | h | h := hd <;> simp [allowed, h]

theorem exec_rdw_of_ok {b0 b1 : Byte} (h : s.answer (.read s.blk.addr reg) = .ok b0 b1) :
    exec (.rdw reg) s = .next (s.afterCommand [.read s.blk.addr reg (.ok b0 b1)]
      (.ok (zext64 (be16 b0 b1).toNat) 0#32 0#32)) := by
  rw [exec_rdw_eq_memRead hreg hd, memRead_beginCommand_of_ok _ h, ← State.respond_record_beginCommand]
  rfl

theorem exec_rdw_of_fail {k : FailKind} (h : s.answer (.read s.blk.addr reg) = .fail k) :
    exec (.rdw reg) s = .next (s.afterCommand [.read s.blk.addr reg (.fail k)] (.err .busIOError (busInfo k 0))) := by
  rw [exec_rdw_eq_memRead hreg hd, memRead_of_fail (s := s.beginCommand) _ ((State.answer_beginCommand s _).trans h),
    ← State.respond_record_beginCommand, ← einfo_busIO (by decide)]
  rfl

end

theorem exec_decs16 (raw : Word) (s : State) :
    exec (.decs16 raw) s = .next (s.afterCommand [] (.ok (tc64 (s16 raw)) 0#32 0#32)) := rfl

theorem exec_deccfg (raw : Word) (s : State) :
    exec (.deccfg raw) s = .next (s.afterCommand []
      (.ok (zext64 (fsOf (decodeConfig raw)).toNat) (zext32 (undocumentedBits raw).toNat) 0#32)) := rfl

/-! ### A second command on the word the first one answered -/

section

variable {first : Instr} {andThen : Word → Instr} {s t : State}

theorem issueThen_of_ok {v : Word} {r1 r2 : BitVec 32} (h : exec first s = .next t)
    (hr : t.resp = some (.ok (zext64 v.toNat) r1 r2)) : issueThen first andThen s = exec (andThen v) t := by
  have hv : (zext64 v.toNat).extractLsb' 0 16 = v := by
    apply BitVec.eq_of_toNat_eq
    have := v.isLt
    simp [zext64, BitVec.extractLsb'_toNat]
    omega
  simp only [issueThen, h, hr, hv]

theorem issueThen_of_err {status : ErrStatus} {einfo : BitVec 64} (h : exec first s = .next t)
    (hr : t.resp = some (.err status einfo)) : issueThen first andThen s = .next t := by
  simp only [issueThen, h, hr]

end

end Sys2Proof.Machine

namespace Sys2Proof.Proofs

open Sys2Proof.Machine Sys2Proof.Claims

/-- Settles O57: INIT.A goes on from the state LOCATEA left, or stops at LOCATEA's refusal. -/
theorem initSequenceBringsReadyOrStops : Obligations.InitSequenceBringsReadyOrStops := by
  intro s addr shunt imax brng pg badc sadc mode
  refine ⟨fun hu ha => ?_, fun ha => ?_, fun ha hc => ?_, fun ha hd => ?_⟩
  · rw [initA, issueUntilFailure_of_ok (exec_locatea_of_uninit hu ha) rfl]
    exact configuresAndEnables_of_located ..
  · exact issueUntilFailure_of_err (refusedWith_illegalCommand (operandFault_locatea_of_not_inBusRange ha)) rfl
  · exact issueUntilFailure_of_err (refusedWith_driverClosed (operandFault_locatea_of_inBusRange ha) rfl hc) rfl
  · exact issueUntilFailure_of_err (refusedWith_wrongState (operandFault_locatea_of_inBusRange ha)
      (ne_closed_of_driving hd) (beq_false_of_ne (ne_uninit_of_driving hd))) rfl

/-- Settles O58: INIT.P goes on from the state LOCATEP left, or stops at LOCATEP's failure. -/
theorem initByProbingBringsReadyOrStops : Obligations.InitByProbingBringsReadyOrStops := by
  intro s shunt imax brng pg badc sadc mode
  refine ⟨fun n hn hu hsilent hack => ?_, fun hu hsilent => ?_, fun hc => ?_, fun hd => ?_⟩
  · rw [initP, issueUntilFailure_of_ok (exec_locatep_of_acksAt hu hn hsilent hack) rfl]
    exact configuresAndEnables_of_located ..
  · exact issueUntilFailure_of_err (exec_locatep_of_silent hu hsilent) rfl
  · exact issueUntilFailure_of_err (refusedWith_driverClosed rfl rfl hc) rfl
  · exact issueUntilFailure_of_err (refusedWith_wrongState rfl (ne_closed_of_driving hd)
      (beq_false_of_ne (ne_uninit_of_driving hd))) rfl

/-- Settles O59: the second command is issued on the word the read answered, or not at all. -/
theorem rdshuntAndRdcfgDecodeTheWordRead : Obligations.RdshuntAndRdcfgDecodeTheWordRead := by
  intro s b0 b1 k hd
  have hshunt : RegName.shuntv.number.toNat ≤ 5 := by decide
  have hconfig : RegName.config.number.toNat ≤ 5 := by decide
  refine ⟨fun h => ?_, fun h => ?_, fun h => ?_, fun h => ?_⟩
  · exact ⟨_, (issueThen_of_ok (exec_rdw_of_ok hshunt hd h) rfl).trans (exec_decs16 _ _), rfl, rfl⟩
  · exact ⟨_, _, (issueThen_of_ok (exec_rdw_of_ok hconfig hd h) rfl).trans (exec_deccfg _ _),
      exec_deccfg _ s, rfl, rfl⟩
  · exact ⟨_, issueThen_of_err (exec_rdw_of_fail hshunt hd h) rfl, rfl⟩
  · exact ⟨_, issueThen_of_err (exec_rdw_of_fail hconfig hd h) rfl, rfl⟩

end Sys2Proof.Proofs
/-! Family 1, RDW, WRW and PROBE (40_bus_access.md R100 to R102): the row of the opcode table for any instruction, and
the next states of the commands that the files before do not give. -/

namespace Sys2Proof

/-! ### The pattern of a command word (30_encoding.md R76) -/

/-- The row of an instruction's mnemonic is its pattern: its own word matches, and a word of the same opcode that does
not match breaks a must-be-zero bit. -/
theorem hasPattern_of_row {i : Instr} {mask mtch : CmdWord} (h : (i.mnemonic, mask, mtch) ∈ Claims.opcodeTable) :
    Claims.HasPattern i mask mtch := by
  obtain ⟨hmask, hmatch⟩ := mask_and_match_of_row h
  dsimp only at hmask hmatch
  subst hmask hmatch
  refine ⟨(matches_row_iff (opField_encode i)).mpr (encode_and_mustBeZero i), fun w hw hne => ?_⟩
  have ho : opField w = i.mnemonic.opcode := hw.trans (opField_shiftLeft _)
  exact decode_of_mustBeZero ho fun hz => hne ((matches_row_iff ho).mpr hz)

end Sys2Proof

namespace Sys2Proof.Machine

open Sys2Proof.Claims

/-! ### What the prologue tests of RDW and WRW (60_exceptions.md R204) -/

theorem operandFault_rdw_of_le {reg : RegNum} (hreg : reg.toNat ≤ 5) : operandFault (.rdw reg) = none :=
  (operandFault_eq_none_iff _).mpr (decide_eq_true hreg)

theorem operandFault_wrw_of_writable {reg : RegNum} {val : Word} (hreg : reg.toNat = 0 ∨ reg.toNat = 5) :
    operandFault (.wrw reg val) = none :=
  (operandFault_eq_none_iff _).mpr (decide_eq_true hreg)

theorem allowed_wrw_iff (b : Block) (reg : RegNum) (val : Word) : allowed b (.wrw reg val) = true ↔ Driving b := by
  simp [allowed, or_assoc]

/-- UNINIT is the state numbered 0 (10_state.md R20). -/
theorem refusedWith_wrongState_of_uninit {i : Instr} {s : State} (hf : operandFault i = none)
    (hu : s.blk.fsm = .uninit) (ha : allowed s.blk i = false) : RefusedWith i s .wrongStateError 0#64 := by
  have h := refusedWith_wrongState hf (by simp [hu]) ha
  rw [hu] at h
  exact h

/-! ### WRW where it is allowed (40_bus_access.md R101) -/

section

variable {s : State} {reg : RegNum} {val : Word} (hreg : reg.toNat = 0 ∨ reg.toNat = 5) (hd : Driving s.blk)
include hreg hd

theorem exec_wrw_eq_memWrite :
    exec (.wrw reg val) s = .next (memWrite reg val s.beginCommand fun s => s.ok 0#64 0#32 0#32) :=
  runCommand_of_allowed _ (operandFault_wrw_of_writable hreg) ((allowed_wrw_iff _ _ _).mpr hd)

theorem exec_wrw_of_ok {b0 b1 : Byte} (h : s.answer (writeRequest s.blk.addr reg val.toNat) = .ok b0 b1) :
    exec (.wrw reg val) s =
      .next (s.afterCommand [writeTxn s.blk.addr reg val.toNat .ok] (.ok 0#64 0#32 0#32)) := by
  rw [writeRequest_toNat] at h
  rw [exec_wrw_eq_memWrite hreg hd, memWrite_of_ok (s := s.beginCommand) _ ((State.answer_beginCommand s _).trans h),
    writeTxn_toNat, ← State.respond_record_beginCommand]
  rfl

theorem exec_wrw_of_fail {k : FailKind} (h : s.answer (writeRequest s.blk.addr reg val.toNat) = .fail k) :
    exec (.wrw reg val) s =
      .next (s.afterCommand [writeTxn s.blk.addr reg val.toNat (.fail k)] (.err .busIOError (busInfo k 0))) := by
  rw [writeRequest_toNat] at h
  rw [exec_wrw_eq_memWrite hreg hd, memWrite_of_fail (s := s.beginCommand) _ ((State.answer_beginCommand s _).trans h),
    writeTxn_toNat, ← State.respond_record_beginCommand, ← einfo_busIO (by decide)]
  rfl

end

/-! ### PROBE where it is allowed (40_bus_access.md R102) -/

section

variable {s : State} (hc : s.blk.fsm ≠ .closed)
include hc

theorem exec_probe_eq_scan :
    exec .probe s = .next (scan probeRange s.beginCommand
      (fun a s => s.ok (zext64 a.toNat) 1#32 0#32) (fun s => s.ok 0#64 0#32 0#32)) :=
  runCommand_of_allowed _ rfl (by simp [allowed, hc])

theorem exec_probe_of_acksAt {n : Nat} (hn : n < probeRange.length) (hsilent : SilentBelow s n) (hack : AcksAt s n) :
    exec .probe s = .next (s.afterCommand (silentScan n ++ [.quick (BitVec.ofNat 7 (3 + n)) .ack])
      (.ok (BitVec.ofNat 64 (3 + n)) 1#32 0#32)) := by
  have hlen : probeRange.length = 116 := by decide
  have haddr : (BitVec.ofNat 7 (3 + n)).toNat = 3 + n := Nat.mod_eq_of_lt (by omega)
  rw [exec_probe_eq_scan hc, scan_of_acksAt hn (by simpa [SilentBelow] using hsilent) (by simpa [AcksAt] using hack),
    haddr, ← State.respond_recordAll_beginCommand]
  rfl

theorem exec_probe_of_silent (hsilent : SilentBelow s 116) :
    exec .probe s = .next (s.afterCommand (silentScan 116) (.ok 0#64 0#32 0#32)) := by
  rw [exec_probe_eq_scan hc, scan_of_silent (by simpa [SilentBelow] using hsilent),
    ← State.respond_recordAll_beginCommand]
  rfl

end

end Sys2Proof.Machine

namespace Sys2Proof.Proofs

open Sys2Proof.Machine Sys2Proof.Claims

/-- Settles O12: PROBE is the scan of the probe range, and the scan stops at the first acknowledging address. -/
theorem probeReturnsFirstAcknowledgingAddress : Obligations.ProbeReturnsFirstAcknowledgingAddress := by
  intro s
  refine ⟨hasPattern_of_row (by decide), fun n hn hc hsilent hack => ?found, fun hc hsilent => ?notFound,
    fun hc => ?closed⟩
  case found => exact exec_probe_of_acksAt hc hn hsilent hack
  case notFound => exact exec_probe_of_silent hc hsilent
  case closed => exact refusedWith_driverClosed rfl rfl hc

/-- Settles O10: one framed read where the prologue lets RDW run, and its refusals elsewhere. -/
theorem rdwReadsOneRegisterWord : Obligations.RdwReadsOneRegisterWord := by
  intro reg s
  have hpattern : HasPattern (.rdw reg) 0xFFFFFF00FFFFFFFF#64 0x1000000000000000#64 :=
    hasPattern_of_row (by simp [opcodeTable, Instr.mnemonic])
  refine ⟨⟨hpattern, Instr.rdw.inj (readOperands_encode (.rdw reg))⟩, fun b0 b1 hreg hd h => ?ok,
    fun k hreg hd h => ?busError, fun hreg => ?badRegister, fun hreg hc => ?closed, fun hreg hu => ?uninit⟩
  case ok =>
    rw [exec_rdw_of_ok hreg hd h, be16_toNat]
    rfl
  case busError => exact exec_rdw_of_fail hreg hd h
  case badRegister => exact refusedWith_illegalCommand ((operandFault_rdw reg).trans (if_pos hreg))
  case closed => exact refusedWith_driverClosed (operandFault_rdw_of_le hreg) rfl hc
  case uninit => exact refusedWith_wrongState_of_uninit (operandFault_rdw_of_le hreg) hu (by simp [allowed, hu])

/-- Settles O11: one framed write where the prologue lets WRW run, and its refusals elsewhere. -/
theorem wrwWritesOneRegisterWord : Obligations.WrwWritesOneRegisterWord := by
  intro reg val s
  have hpattern : HasPattern (.wrw reg val) 0xFFFFFF00FFFF0000#64 0x1100000000000000#64 :=
    hasPattern_of_row (by simp [opcodeTable, Instr.mnemonic])
  refine ⟨⟨hpattern, Instr.wrw.inj (readOperands_encode (.wrw reg val))⟩, fun b0 b1 hreg hd h => ?ok,
    fun k hreg hd h => ?busError, fun hreg => ?badRegister, fun hlo hhi => ?readOnlyRegister, fun hreg hc => ?closed,
    fun hreg hu => ?uninit⟩
  case ok => exact exec_wrw_of_ok hreg hd h
  case busError => exact exec_wrw_of_fail hreg hd h
  case badRegister => exact refusedWith_illegalCommand ((operandFault_wrw reg val).trans (if_pos hreg))
  case readOnlyRegister =>
    refine refusedWith_illegalCommand (sub := .readOnlyRegister) ?_
    rw [operandFault_wrw, if_neg (by omega), if_pos ⟨hlo, hhi⟩]
  case closed => exact refusedWith_driverClosed (operandFault_wrw_of_writable hreg) rfl hc
  case uninit => exact refusedWith_wrongState_of_uninit (operandFault_wrw_of_writable hreg) hu (by simp [allowed, hu])

end Sys2Proof.Proofs
/-! Family 2, ENCCFG and DECCFG (41_config_codec.md R120 to R125): the config word and its five field codes are each
recovered from the other, and the masks of the fields act on the word as they act on the codes. -/

namespace Sys2Proof.Machine

/-! ### The round trip of the config word (41_config_codec.md R123) -/

@[simp] theorem decodeConfig_encodeConfig (c : CfgFields) : decodeConfig (encodeConfig c) = c := by
  obtain ⟨brng, pg, badc, sadc, mode⟩ := c
  simp only [decodeConfig, CfgFields.mk.injEq]
  refine ⟨?_, ?_, ?_, ?_, ?_⟩ <;>
  · apply BitVec.eq_of_toNat_eq
    simp only [BitVec.extractLsb'_toNat, Nat.shiftRight_eq_div_pow, encodeConfig_toNat, Claims.cfgNumber]
    omega

theorem toNat_and_documentedMask (w : Word) : (w &&& 0x3FFF#16).toNat = w.toNat % 0x4000 :=
  Nat.and_two_pow_sub_one_eq_mod w.toNat 14

/-- Only bits 15:14 are lost: the five fields fill the other fourteen. -/
theorem encodeConfig_decodeConfig (w : Word) : encodeConfig (decodeConfig w) = w &&& 0x3FFF#16 := by
  apply BitVec.eq_of_toNat_eq
  rw [toNat_and_documentedMask]
  simp only [encodeConfig_toNat, Claims.cfgNumber, decodeConfig, BitVec.extractLsb'_toNat, Nat.shiftRight_eq_div_pow]
  omega

theorem encodeConfig_injective : Function.Injective encodeConfig :=
  Function.LeftInverse.injective decodeConfig_encodeConfig

theorem undocumentedBits_toNat (w : Word) : (undocumentedBits w).toNat = w.toNat / 16384 := by
  simp only [undocumentedBits, BitVec.extractLsb'_toNat, Nat.shiftRight_eq_div_pow]
  omega

theorem undocumentedBits_encodeConfig (c : CfgFields) : undocumentedBits (encodeConfig c) = 0#2 := by
  apply BitVec.eq_of_toNat_eq
  rw [undocumentedBits_toNat]
  exact Nat.div_eq_of_lt (encodeConfig_lt c)

/-- The words the encoder reaches are those without an undocumented bit. -/
theorem encodeConfig_decodeConfig_of_lt {w : Word} (h : w.toNat < 0x4000) : encodeConfig (decodeConfig w) = w := by
  rw [encodeConfig_decodeConfig]
  apply BitVec.eq_of_toNat_eq
  rw [toNat_and_documentedMask, Nat.mod_eq_of_lt h]

/-! ### Masking the config word -/

/-- The field codes masked one by one. -/
def CfgFields.and (c d : CfgFields) : CfgFields :=
  ⟨c.brng &&& d.brng, c.pg &&& d.pg, c.badc &&& d.badc, c.sadc &&& d.sadc, c.mode &&& d.mode⟩

theorem decodeConfig_and (v w : Word) : decodeConfig (v &&& w) = (decodeConfig v).and (decodeConfig w) := by
  simp only [decodeConfig, CfgFields.and, BitVec.extractLsb'_and]

/-- Nothing bleeds from one field into another: masking two words masks their fields. -/
theorem encodeConfig_and (c d : CfgFields) : encodeConfig (c.and d) = encodeConfig c &&& encodeConfig d := by
  have hlt : (encodeConfig c &&& encodeConfig d).toNat < 0x4000 :=
    Nat.lt_of_le_of_lt Nat.and_le_left (encodeConfig_lt c)
  rw [← encodeConfig_decodeConfig_of_lt hlt, decodeConfig_and, decodeConfig_encodeConfig, decodeConfig_encodeConfig]

/-! ### What ENCCFG and DECCFG answer (41_config_codec.md R121, R122) -/

theorem exec_enccfg (brng : BitVec 1) (pg : BitVec 2) (badc sadc : BitVec 4) (mode : BitVec 3) (s : State) :
    exec (.enccfg brng pg badc sadc mode) s = .next (s.afterCommand []
      (.ok (zext64 (encodeConfig ⟨brng, pg, badc, sadc, mode⟩).toNat) 0#32 0#32)) := rfl

/-- The FS layout is the sum of the field codes, one per 4-bit slot (30_encoding.md R71). -/
theorem fsOf_toNat (c : CfgFields) :
    (fsOf c).toNat =
      c.brng.toNat * 65536 + c.pg.toNat * 4096 + c.badc.toNat * 256 + c.sadc.toNat * 16 + c.mode.toNat := by
  simp only [fsOf, packFs, BitVec.toNat_or, BitVec.toNat_shiftLeft, BitVec.toNat_setWidth, Nat.or_assoc]
  simp (disch := omega) only [Nat.mod_eq_of_lt]
  rw [← Nat.shiftLeft_add_eq_or_of_lt (i := 4) (by omega), ← Nat.shiftLeft_add_eq_or_of_lt (i := 8) (by omega),
    ← Nat.shiftLeft_add_eq_or_of_lt (i := 12) (by omega), ← Nat.shiftLeft_add_eq_or_of_lt (i := 16) (by omega)]
  omega

/-! ### The named ADC codes (41_config_codec.md R124) -/

theorem adcName_isSome_iff (c : BitVec 4) :
    (adcName c).isSome = true ↔ c.toNat ∈ [0, 1, 2, 3, 9, 10, 11, 12, 13, 14, 15] := by
  unfold adcName
  split <;> simp_all

end Sys2Proof.Machine

namespace Sys2Proof.Proofs

open Sys2Proof.Machine Sys2Proof.Claims

/-- Settles O15: decoding the word gives each field back, and the mask of a field is the word of its ones alone. -/
theorem configWordReproducesEachField : Obligations.ConfigWordReproducesEachField := by
  intro c
  obtain ⟨hbrng, hpg, hbadc, hsadc, hmode⟩ := CfgFields.mk.inj (decodeConfig_encodeConfig c)
  have brngMask : 0x2000#16 = encodeConfig ⟨BitVec.allOnes 1, 0#2, 0#4, 0#4, 0#3⟩ := rfl
  have pgMask : 0x1800#16 = encodeConfig ⟨0#1, BitVec.allOnes 2, 0#4, 0#4, 0#3⟩ := rfl
  have badcMask : 0x0780#16 = encodeConfig ⟨0#1, 0#2, BitVec.allOnes 4, 0#4, 0#3⟩ := rfl
  have sadcMask : 0x0078#16 = encodeConfig ⟨0#1, 0#2, 0#4, BitVec.allOnes 4, 0#3⟩ := rfl
  have modeMask : 0x0007#16 = encodeConfig ⟨0#1, 0#2, 0#4, 0#4, BitVec.allOnes 3⟩ := rfl
  rw [brngMask, pgMask, badcMask, sadcMask, modeMask]
  simp only [← encodeConfig_and, CfgFields.and, BitVec.and_allOnes, BitVec.and_zero, true_and, and_true]
  exact ⟨undocumentedBits_encodeConfig c, hbrng, hpg, hbadc, hsadc, hmode⟩

/-- Settles O16: the two round trips give injectivity and, the image lying below 0x4000, the exact range. -/
theorem configRoundTrip : Obligations.ConfigRoundTrip := by
  refine ⟨decodeConfig_encodeConfig, encodeConfig_decodeConfig, fun c d h => encodeConfig_injective h,
    fun w => ⟨fun h => ⟨decodeConfig w, encodeConfig_decodeConfig_of_lt h⟩, ?_⟩⟩
  rintro ⟨c, rfl⟩
  exact encodeConfig_lt c

/-- Settles O13: ENCCFG answers the encoded word, whose number is the sum of the codes at their offsets. -/
theorem enccfgPutsFieldsAtTheirOffsets : Obligations.EnccfgPutsFieldsAtTheirOffsets := by
  intro brng pg badc sadc mode s
  have hpattern : HasPattern (.enccfg brng pg badc sadc mode) 0xFFFFFFFFFFFEC008#64 0x2000000000000000#64 :=
    hasPattern_of_row (by simp [opcodeTable, Instr.mnemonic])
  refine ⟨⟨hpattern, Instr.enccfg.inj (readOperands_encode (.enccfg brng pg badc sadc mode))⟩, ?_⟩
  rw [exec_enccfg, encodeConfig_toNat]
  rfl

/-- Settles O14: DECCFG answers the fields of the word in their FS slots, and the bits above them as found. -/
theorem deccfgExtractsTheFiveFields : Obligations.DeccfgExtractsTheFiveFields := by
  intro raw s
  have hpattern : HasPattern (.deccfg raw) 0xFFFFFFFFFFFF0000#64 0x2100000000000000#64 :=
    hasPattern_of_row (by simp [opcodeTable, Instr.mnemonic])
  refine ⟨⟨hpattern, Instr.deccfg.inj (readOperands_encode (.deccfg raw))⟩, ?_⟩
  rw [exec_deccfg, fsOf_toNat, undocumentedBits_toNat]
  simp only [decodeConfig, BitVec.extractLsb'_toNat, Nat.shiftRight_eq_div_pow, zext64, zext32, Nat.reducePow,
    Nat.div_one]

/-- Settles O60: `CfgNamed` asks `adcName` for a name of each ADC code. -/
theorem cfgNamedIsTheElevenAdcCodes : Obligations.CfgNamedIsTheElevenAdcCodes := by
  intro c
  rw [cfgNamed, Bool.and_eq_true, adcName_isSome_iff, adcName_isSome_iff]

end Sys2Proof.Proofs
/-! Family 3, DECS16 and DECBV (42_reading_decode.md R130 to R133): the signed value of a word on each half of its
range, and the three fields of a bus-voltage word as arithmetic on its number. -/

namespace Sys2Proof.Machine

/-! ### The signed value of a word (42_reading_decode.md R130) -/

theorem s16_of_lt {raw : Word} (h : raw.toNat < 32768) : s16 raw = raw.toNat :=
  if_neg (Nat.not_le.mpr h)

theorem s16_of_ge {raw : Word} (h : 32768 ≤ raw.toNat) : s16 raw = raw.toNat - 65536 :=
  if_pos h

/-- The source's rule is the two's-complement value of the word. -/
theorem s16_eq_toInt (raw : Word) : s16 raw = raw.toInt := by
  rw [BitVec.toInt_eq_toNat_cond]
  obtain h | h := Nat.lt_or_ge raw.toNat 32768
  · rw [s16_of_lt h, if_pos (by omega)]
  · rw [s16_of_ge h, if_neg (by omega)]
    rfl

/-- The signed value is the word's number, up to a multiple of 65536. -/
theorem s16_emod (raw : Word) : s16 raw % 65536 = raw.toNat := by
  have hlt := raw.isLt
  obtain h | h := Nat.lt_or_ge raw.toNat 32768
  · rw [s16_of_lt h]
    omega
  · rw [s16_of_ge h]
    omega

/-- Within either half of the range the signed value grows with the word. -/
theorem s16_lt_s16 {a b : Word} (hab : a.toNat < b.toNat) (hhalf : b.toNat ≤ 32767 ∨ 32768 ≤ a.toNat) :
    s16 a < s16 b := by
  obtain hlow | hhigh := hhalf
  · rw [s16_of_lt (raw := a) (by omega), s16_of_lt (raw := b) (by omega)]
    omega
  · rw [s16_of_ge hhigh, s16_of_ge (raw := b) (by omega)]
    omega

/-! ### The fields of a bus-voltage word (42_reading_decode.md R131) -/

theorem conversionReady_toNat (raw : Word) : (conversionReady raw).toNat = raw.toNat / 2 % 2 :=
  Nat.toNat_testBit raw.toNat 1

theorem mathOverflow_toNat (raw : Word) : (mathOverflow raw).toNat = raw.toNat % 2 := by
  rw [mathOverflow, BitVec.getLsbD, Nat.toNat_testBit, pow_zero, Nat.div_one]

/-- 4 millivolts per count of `raw[15:3]`. -/
theorem decodeBusVoltage_mv (raw : Word) : (decodeBusVoltage raw).mv = raw.toNat / 8 * 4 :=
  congrArg (· * 4) (voltageCount_toNat raw)

/-- A word put together from its parts decodes to them; bit 2 is lost. -/
theorem decodeBusVoltage_ofNat (count : BitVec 13) (b2 cnvr ovf : Bool) :
    decodeBusVoltage (BitVec.ofNat 16 (count.toNat * 8 + b2.toNat * 4 + cnvr.toNat * 2 + ovf.toNat)) =
      { mv := 4 * count.toNat, cnvr := cnvr, ovf := ovf } := by
  have hcount := count.isLt
  have hb2 := b2.toNat_lt
  have hcnvr := cnvr.toNat_lt
  have hovf := ovf.toNat_lt
  generalize hraw : BitVec.ofNat 16 _ = raw
  have hnumber : raw.toNat = count.toNat * 8 + b2.toNat * 4 + cnvr.toNat * 2 + ovf.toNat := by
    rw [← hraw, BitVec.toNat_ofNat, Nat.mod_eq_of_lt (by omega)]
  have toNat_injective := Function.LeftInverse.injective Bool.ofNat_toNat
  rw [decodeBusVoltage, BusVoltage.mk.injEq]
  refine ⟨(decodeBusVoltage_mv raw).trans ?_, toNat_injective ((conversionReady_toNat raw).trans ?_),
    toNat_injective ((mathOverflow_toNat raw).trans ?_)⟩ <;> omega

/-! ### What DECBV answers -/

theorem exec_decbv (raw : Word) (s : State) :
    exec (.decbv raw) s = .next (s.afterCommand []
      (.ok (zext64 (decodeBusVoltage raw).mv) (zext32 (conversionReady raw).toNat)
        (zext32 (mathOverflow raw).toNat))) := rfl

end Sys2Proof.Machine

namespace Sys2Proof.Proofs

open Sys2Proof.Machine Sys2Proof.Claims

/-- Settles O19: the voltage is a multiple of the word's count, a word put together decodes to its parts, and `s16`
differs from the word's number by a constant on each half. -/
theorem readingDecoderLaws : Obligations.ReadingDecoderLaws := by
  refine ⟨fun raw => ?voltage, decodeBusVoltage_ofNat, fun _ _ => s16_lt_s16, ?mostNegative⟩
  case voltage => rw [decodeBusVoltage_mv, Nat.mul_comm]
  case mostNegative => decide

/-- Settles O17: DECS16 answers the word's two's-complement value, so the 64-bit answer is its sign extension. -/
theorem decs16IsTwosComplement : Obligations.Decs16IsTwosComplement := by
  intro raw s
  have hpattern : HasPattern (.decs16 raw) 0xFFFFFFFFFFFF0000#64 0x3000000000000000#64 :=
    hasPattern_of_row (by simp [opcodeTable, Instr.mnemonic])
  have hsigned : signed raw = raw.toInt := s16_eq_toInt raw
  refine ⟨⟨hpattern, Instr.decs16.inj (readOperands_encode (.decs16 raw))⟩, exec_decs16 raw s, ?value, ?extension,
    ?range, s16_emod raw⟩
  case value =>
    rw [hsigned]
    exact BitVec.toInt_signExtend_of_le (by decide)
  case extension =>
    rw [hsigned]
    rfl
  case range =>
    rw [hsigned]
    exact ⟨raw.le_toInt, raw.toInt_le⟩

/-- Settles O18: DECBV answers the three fields of the word, each as its arithmetic on the word's number. -/
theorem decbvDecodesThreeFields : Obligations.DecbvDecodesThreeFields := by
  intro raw s
  have hpattern : HasPattern (.decbv raw) 0xFFFFFFFFFFFF0000#64 0x3100000000000000#64 :=
    hasPattern_of_row (by simp [opcodeTable, Instr.mnemonic])
  refine ⟨⟨hpattern, Instr.decbv.inj (readOperands_encode (.decbv raw))⟩, ?_⟩
  rw [exec_decbv, decodeBusVoltage_mv, conversionReady_toNat, mathOverflow_toNat]
  rfl

end Sys2Proof.Proofs
/-! Family 4, CVTI, CVTV, CVTP and CALC (43_scale_convert.md R140 to R152): the exact products of a count with its
scale and their bounds, and what `ComputeCal` returns for any current LSB. -/

namespace Sys2Proof.Machine

/-! ### The bounds of the products (43_scale_convert.md R140, R142) -/

/-- The greatest magnitude is that of -32768 at the greatest 24-bit scale. -/
theorem natAbs_scaleCurrent_le (raw : Word) (scale : BitVec 24) :
    (scaleCurrent raw scale.toNat).natAbs ≤ 32768 * 16777215 := by
  have hlo := raw.le_toInt
  have hhi := raw.toInt_le
  have hraw : (s16 raw).natAbs ≤ 32768 := by
    rw [s16_eq_toInt]
    omega
  rw [scaleCurrent, Int.natAbs_mul, Int.natAbs_natCast]
  exact Nat.mul_le_mul hraw (Nat.le_of_lt_succ scale.isLt)

theorem scalePower_le (raw : Word) (scale : BitVec 24) : scalePower raw scale.toNat ≤ 65535 * 16777215 :=
  Nat.mul_le_mul (Nat.le_of_lt_succ raw.isLt) (Nat.le_of_lt_succ scale.isLt)

theorem scaleBusVoltage_le (count : BitVec 13) : scaleBusVoltage count ≤ 8191 * 4 :=
  Nat.mul_le_mul_right 4 (Nat.le_of_lt_succ count.isLt)

/-! ### What the four commands answer (43_scale_convert.md R140 to R142, R151) -/

theorem exec_cvti (raw : Word) (scale : BitVec 24) (s : State) :
    exec (.cvti raw scale) s =
      .next (s.afterCommand [] (.ok (tc64 (scaleCurrent raw scale.toNat)) 0#32 0#32)) := rfl

theorem exec_cvtv (count : BitVec 13) (s : State) :
    exec (.cvtv count) s = .next (s.afterCommand [] (.ok (zext64 (scaleBusVoltage count)) 0#32 0#32)) := rfl

theorem exec_cvtp (raw : Word) (scale : BitVec 24) (s : State) :
    exec (.cvtp raw scale) s =
      .next (s.afterCommand [] (.ok (zext64 (scalePower raw scale.toNat)) 0#32 0#32)) := rfl

section

variable {shunt imax : BitVec 16} {brng : BitVec 1} {pg : BitVec 2} {badc sadc : BitVec 4} (s : State)

theorem exec_calcCal_of_ok {cs : CalState} (h : computeCal shunt imax brng pg badc sadc = .ok cs) :
    exec (.calcCal shunt imax brng pg badc sadc) s = .next (s.afterCommand []
      (.ok (zext64 cs.cal.toNat) (zext32 cs.ilsb.toNat) (zext32 cs.plsb.toNat))) := by
  simp only [exec, execCalc, h]
  rfl

theorem refusedWith_invalidCalibration {why : CalFault}
    (h : computeCal shunt imax brng pg badc sadc = .error why) :
    RefusedWith (.calcCal shunt imax brng pg badc sadc) s .invalidCalibrationInputError why.code := by
  simp only [RefusedWith, exec, execCalc, h]
  rfl

end

/-! ### What `ComputeCal` returns (43_scale_convert.md R152) -/

section

variable {lsb shunt imax : BitVec 16} {cs : CalState}

theorem computeCalFor_ok (h : computeCalFor lsb shunt imax = .ok cs) :
    shunt ≠ 0#16 ∧ cs.ilsb = lsb ∧ cs.plsb.toNat = 20 * lsb.toNat ∧
      cs.cal.toNat = 40960000 / (lsb.toNat * shunt.toNat) := by
  obtain ⟨-, he⟩ | ⟨-, -, he⟩ | ⟨hz, hq, he⟩ := computeCalFor_cases lsb shunt imax <;> rw [he] at h
  · cases h
  · cases h
  · obtain rfl := Except.ok.inj h
    have hplsb : 20 * lsb.toNat < 2 ^ 24 := by omega
    exact ⟨fun h0 => hz (.inl h0), rfl, Nat.mod_eq_of_lt hplsb, Nat.mod_eq_of_lt (Nat.lt_succ_of_le hq)⟩

/-- `cal` is the floor of a quotient whose divisor is not zero. -/
theorem computeCalFor_ok_bounds (hlsb : lsb ≠ 0#16) (h : computeCalFor lsb shunt imax = .ok cs) :
    cs.cal.toNat * lsb.toNat * shunt.toNat ≤ 40960000 ∧
      40960000 < (cs.cal.toNat + 1) * lsb.toNat * shunt.toNat := by
  obtain ⟨hshunt, -, -, hcal⟩ := computeCalFor_ok h
  have hdivisor : 0 < lsb.toNat * shunt.toNat :=
    Nat.mul_pos (BitVec.toNat_pos_of_ne_zero hlsb) (BitVec.toNat_pos_of_ne_zero hshunt)
  rw [hcal, Nat.mul_assoc, Nat.mul_assoc, Nat.mul_comm (_ + 1)]
  exact ⟨Nat.div_mul_le_self .., Nat.lt_mul_div_succ 40960000 hdivisor⟩

end

end Sys2Proof.Machine

namespace Sys2Proof.Proofs

open Sys2Proof.Machine Sys2Proof.Claims

/-- Settles O24: by inversion of `ComputeCal`, whose quotient is a floor; this hardware is the case of LSB 100. -/
theorem calibrationStateInvariants : Obligations.CalibrationStateInvariants := by
  refine ⟨fun lsb shunt imax cs hlsb h => ?returned, computeCal_eq, fun _ _ _ _ => (computeCal_eq ..).trans (by decide)⟩
  obtain ⟨-, hilsb, hplsb, -⟩ := computeCalFor_ok h
  rw [hilsb]
  exact ⟨hplsb, ⟨BitVec.toNat_pos_of_ne_zero hlsb, Nat.le_of_lt_succ lsb.isLt⟩, computeCalFor_ok_bounds hlsb h⟩

/-- Settles O20: CVTI answers the scaled current, and the product of a 16-bit count with a 24-bit scale fits. -/
theorem cvtiMultipliesSignedCount : Obligations.CvtiMultipliesSignedCount := by
  intro raw scale s
  have hpattern : HasPattern (.cvti raw scale) 0xFF000000FFFF0000#64 0x4000000000000000#64 :=
    hasPattern_of_row (by simp [opcodeTable, Instr.mnemonic])
  exact ⟨⟨hpattern, Instr.cvti.inj (readOperands_encode (.cvti raw scale))⟩, exec_cvti raw scale s,
    toInt_tc64_scaleCurrent raw scale.isLt, natAbs_scaleCurrent_le raw scale⟩

/-- Settles O21: CVTV answers the scaled voltage, which is the one DECBV decodes by definition. -/
theorem cvtvScalesByFourMillivolts : Obligations.CvtvScalesByFourMillivolts := by
  intro count s
  have hpattern : HasPattern (.cvtv count) 0xFFFFFFFFFFFFE000#64 0x4100000000000000#64 :=
    hasPattern_of_row (by simp [opcodeTable, Instr.mnemonic])
  exact ⟨⟨hpattern, Instr.cvtv.inj (readOperands_encode (.cvtv count))⟩, exec_cvtv count s,
    scaleBusVoltage_le count, fun _ => rfl⟩

/-- Settles O22: CVTP answers the scaled power, and the product of a 16-bit count with a 24-bit scale fits. -/
theorem cvtpMultipliesUnsignedCount : Obligations.CvtpMultipliesUnsignedCount := by
  intro raw scale s
  have hpattern : HasPattern (.cvtp raw scale) 0xFF000000FFFF0000#64 0x4200000000000000#64 :=
    hasPattern_of_row (by simp [opcodeTable, Instr.mnemonic])
  exact ⟨⟨hpattern, Instr.cvtp.inj (readOperands_encode (.cvtp raw scale))⟩, exec_cvtp raw scale s,
    toNat_zext64_scalePower raw scale.isLt, scalePower_le raw scale⟩

/-- Settles O23: CALC answers what `ComputeCal` returns, in each of its three outcomes. -/
theorem calcReturnsCalibrationState : Obligations.CalcReturnsCalibrationState := by
  intro shunt imax brng pg badc sadc s
  have hpattern :
      HasPattern (.calcCal shunt imax brng pg badc sadc) 0xFFFEC00F00000000#64 0x4300000000000000#64 :=
    hasPattern_of_row (by simp [opcodeTable, Instr.mnemonic])
  -- CALC has no operating mode, and `ComputeCal` reads none.
  let c : CfgFields := ⟨brng, pg, badc, sadc, 0#3⟩
  refine ⟨⟨hpattern, Instr.calcCal.inj (readOperands_encode (.calcCal shunt imax brng pg badc sadc))⟩,
    fun hs hi hq => ?fits, fun hz => ?zeroInput, fun hs hi hq => ?quotientTooBig, by decide⟩
  case fits =>
    obtain ⟨cal, hcal, h⟩ := computeCal_of_fits c hs hi hq
    rw [← hcal]
    exact exec_calcCal_of_ok s h
  case zeroInput => exact refusedWith_invalidCalibration s (computeCal_of_zero c hz)
  case quotientTooBig => exact refusedWith_invalidCalibration s (computeCal_of_tooBig c hs hi hq)

end Sys2Proof.Proofs
/-! Family 5, the driver sequencer (44_driver_sequencer.md R160 to R171): the gates of a command as the table of R171,
what a command can answer once it is past them, and the next states that the files before do not give. -/

namespace Sys2Proof.Machine

open Sys2Proof.Claims

/-! ### The table of allowed states (44_driver_sequencer.md R171) -/

/-- A state that does not allow the command refuses it; the commands that do not need the handle, in CLOSED too. -/
theorem refusedWith_wrongState_of_not_allowed {i : Instr} {s : State} (hf : operandFault i = none)
    (hc : ¬(needsHandle i = true ∧ s.blk.fsm = .closed)) (ha : allowed s.blk i = false) :
    RefusedWith i s .wrongStateError (BitVec.ofNat 64 (fsmNumber s.blk.fsm)) := by
  rw [← einfo_wrongState]
  exact refusedWith_of_prologue (f := .wrongState s.blk.fsm) fun body => by simp [prologue, hf, hc, ha]

/-- The invariant ties `S.CALV` to the driver state, so the row of GETCAL is the test of that bit. -/
theorem permission_getcal {b : Block} (hb : b.Inv) :
    permission b.calv .getcal b.fsm = if b.calv = true then .runs else .wrongState := by
  cases hf : b.fsm with
  | uninit | located =>
    rw [hb.early_uncalibrated (by simp [hf])]
    rfl
  | configured | ready =>
    rw [hb.driving_calibrated (by simp [hf])]
    rfl
  | closed => cases b.calv <;> rfl

/-- The table's cell is the branch the prologue takes for a command without operand fault. -/
theorem permission_eq {b : Block} (hb : b.Inv) (i : Instr) :
    permission b.calv i.mnemonic b.fsm =
      if needsHandle i = true ∧ b.fsm = .closed then .closedError
      else if allowed b i = true then .runs else .wrongState := by
  cases i with
  | getcal => exact (permission_getcal hb).trans (if_neg (by simp [needsHandle])).symm
  | _ => cases hf : b.fsm <;> simp [permission, tableRow, needsHandle, allowed, Instr.mnemonic, hf]

/-! ### The answer of a command that runs -/

/-- The command has answered, and with none of the three failures of the prologue (60_exceptions.md R204). -/
def State.AnsweredPastGates (t : State) : Prop :=
  ∃ r, t.resp = some r ∧
    ∀ e, r ≠ .err .driverClosedError e ∧ r ≠ .err .wrongStateError e ∧ r ≠ .err .illegalCommandError e

theorem State.answeredPastGates_ok (s : State) (r0 : BitVec 64) (r1 r2 : BitVec 32) :
    (s.ok r0 r1 r2).AnsweredPastGates :=
  ⟨_, rfl, fun _ => ⟨nofun, nofun, nofun⟩⟩

theorem State.answeredPastGates_busIO (s : State) (k : FailKind) (n : Nat) :
    (s.raise (.busIO k n)).AnsweredPastGates :=
  ⟨_, rfl, fun _ => ⟨nofun, nofun, nofun⟩⟩

theorem State.answeredPastGates_deviceNotFound (s : State) : (s.raise .deviceNotFound).AnsweredPastGates :=
  ⟨_, rfl, fun _ => ⟨nofun, nofun, nofun⟩⟩

theorem State.answeredPastGates_invalidCalibration (s : State) (why : CalFault) :
    (s.raise (.invalidCalibration why)).AnsweredPastGates :=
  ⟨_, rfl, fun _ => ⟨nofun, nofun, nofun⟩⟩

theorem memRead_answeredPastGates {r : RegNum} {s : State} {next : Word → State → State}
    (hnext : ∀ v s', (next v s').AnsweredPastGates) : (memRead r s next).AnsweredPastGates := by
  obtain ⟨b0, b1, -, he⟩ | ⟨k, -, he⟩ := memRead_cases r s next <;> rw [he]
  · exact hnext _ _
  · exact State.answeredPastGates_busIO _ _ _

theorem memWrite_answeredPastGates {r : RegNum} {v : Word} {s : State} {next : State → State}
    (hnext : ∀ s', (next s').AnsweredPastGates) : (memWrite r v s next).AnsweredPastGates := by
  obtain ⟨b0, b1, -, he⟩ | ⟨k, -, he⟩ := memWrite_cases r v s next <;> rw [he]
  · exact hnext _
  · exact State.answeredPastGates_busIO _ _ _

theorem scan_answeredPastGates {as : List BusAddr} {s : State} {found : BusAddr → State → State}
    {notFound : State → State} (hfound : ∀ a s', (found a s').AnsweredPastGates)
    (hnot : ∀ s', (notFound s').AnsweredPastGates) : (scan as s found notFound).AnsweredPastGates := by
  obtain ⟨before, a, after, -, -, he⟩ | he := scan_cases as s found notFound <;> rw [he]
  · exact hfound _ _
  · exact hnot _

theorem reconfigure_answeredPastGates (shunt imax : BitVec 16) (c : CfgFields) (after : Block → Block) (s : State) :
    (reconfigure shunt imax c after s).AnsweredPastGates := by
  cases hcal : computeCal shunt imax c.brng c.pg c.badc c.sadc with
  | error why =>
    rw [reconfigure_of_refused hcal]
    exact State.answeredPastGates_invalidCalibration s why
  | ok cs =>
    simp only [reconfigure, hcal]
    exact memWrite_answeredPastGates fun _ => memWrite_answeredPastGates fun _ => State.answeredPastGates_ok _ _ _ _

theorem exec_calcCal_answeredPastGates (shunt imax : BitVec 16) (brng : BitVec 1) (pg : BitVec 2)
    (badc sadc : BitVec 4) (s : State) :
    ∃ t, exec (.calcCal shunt imax brng pg badc sadc) s = .next t ∧ t.AnsweredPastGates := by
  cases h : computeCal shunt imax brng pg badc sadc with
  | error why =>
    simp only [exec, execCalc, h]
    exact ⟨_, runCommand_of_allowed _ rfl rfl, State.answeredPastGates_invalidCalibration _ why⟩
  | ok cs =>
    simp only [exec, execCalc, h]
    exact ⟨_, runCommand_of_allowed _ rfl rfl, State.answeredPastGates_ok _ _ _ _⟩

/-- No body raises a failure of the prologue. -/
theorem exec_answeredPastGates {i : Instr} {s : State} (hf : operandFault i = none) (ha : allowed s.blk i = true) :
    ∃ t, exec i s = .next t ∧ t.AnsweredPastGates := by
  cases i with
  | rdw | rdcur | rdpwr =>
    exact ⟨_, runCommand_of_allowed _ hf ha,
      memRead_answeredPastGates fun _ _ => State.answeredPastGates_ok _ _ _ _⟩
  | wrw =>
    exact ⟨_, runCommand_of_allowed _ hf ha, memWrite_answeredPastGates fun _ => State.answeredPastGates_ok _ _ _ _⟩
  | rdvbus =>
    refine ⟨_, runCommand_of_allowed _ hf ha, memRead_answeredPastGates fun v s' => ?_⟩
    split
    · exact State.answeredPastGates_ok _ _ _ _
    · exact memRead_answeredPastGates fun _ _ => State.answeredPastGates_ok _ _ _ _
  | probe =>
    exact ⟨_, runCommand_of_allowed _ hf ha, scan_answeredPastGates (fun _ _ => State.answeredPastGates_ok _ _ _ _)
      fun _ => State.answeredPastGates_ok _ _ _ _⟩
  | locatep =>
    exact ⟨_, runCommand_of_allowed _ hf ha, scan_answeredPastGates (fun _ _ => State.answeredPastGates_ok _ _ _ _)
      State.answeredPastGates_deviceNotFound⟩
  | configure | reconf => exact ⟨_, runCommand_of_allowed _ hf ha, reconfigure_answeredPastGates _ _ _ _ _⟩
  | calcCal => exact exec_calcCal_answeredPastGates _ _ _ _ _ _ s
  | enccfg | deccfg | decs16 | decbv | cvti | cvtv | cvtp | locatea | enable | close | getst | getcal =>
    exact ⟨_, runCommand_of_allowed _ hf ha, State.answeredPastGates_ok _ _ _ _⟩

/-! ### Which commands CLOSED refuses (60_exceptions.md R201) -/

theorem needsHandle_of_mnemonic {i : Instr} (hp : i.mnemonic ∉ pureCommands) (hst : i.mnemonic ≠ .getst)
    (hcal : i.mnemonic ≠ .getcal) : needsHandle i = true := by
  cases i with
  | enccfg | deccfg | decs16 | decbv | cvti | cvtv | cvtp | calcCal =>
    exact absurd (by simp [pureCommands, Instr.mnemonic]) hp
  | getst => exact absurd rfl hst
  | getcal => exact absurd rfl hcal
  | _ => rfl

theorem ungated_of_pure {i : Instr} (hp : i.mnemonic ∈ pureCommands) (b : Block) :
    operandFault i = none ∧ allowed b i = true := by
  cases i with
  | enccfg | deccfg | decs16 | decbv | cvti | cvtv | cvtp | calcCal => exact ⟨rfl, rfl⟩
  | _ => simp [pureCommands, Instr.mnemonic] at hp

/-! ### RECONF and CLOSE where they are allowed (44_driver_sequencer.md R167, R168) -/

theorem reconfigures_reconf {s : State} {shunt imax : BitVec 16} {brng : BitVec 1} {pg : BitVec 2}
    {badc sadc : BitVec 4} {mode : BitVec 3} (h : s.blk.fsm = .configured ∨ s.blk.fsm = .ready) :
    Reconfigures (.reconf shunt imax brng pg badc sadc mode) s shunt imax (cfgNumber brng pg badc sadc mode)
      s.blk.fsm :=
  reconfigures_of_exec (c := ⟨brng, pg, badc, sadc, mode⟩) (after := fun b => b)
    (runCommand_of_allowed _ rfl (by simpa [allowed] using h)) fun _ _ => rfl

theorem exec_close_of_ne_closed {s : State} (hc : s.blk.fsm ≠ .closed) :
    exec .close s = .next ((s.afterCommand [] (.ok 0#64 0#32 0#32)).withBlk (s.blk.withFsm .closed)) :=
  runCommand_of_allowed _ rfl (by simp [allowed, hc])

/-! ### GETST and GETCAL (44_driver_sequencer.md R169, R170) -/

/-- A valid bit above an element, as a number. -/
theorem setWidth_ofBool_append {n : Nat} (v : Bool) (x : BitVec n) :
    (BitVec.ofBool v ++ x).setWidth 32 = BitVec.ofNat 32 (v.toNat * 2 ^ n + x.toNat) := by
  apply BitVec.eq_of_toNat_eq
  rw [BitVec.toNat_setWidth, BitVec.toNat_ofNat, BitVec.toNat_append, BitVec.toNat_ofBool,
    ← Nat.shiftLeft_add_eq_or_of_lt x.isLt, Nat.shiftLeft_eq]

theorem exec_getst (s : State) :
    exec .getst s = .next (s.afterCommand [] (.ok (BitVec.ofNat 64 (fsmNumber s.blk.fsm))
      (BitVec.ofNat 32 (s.blk.addrv.toNat * 2 ^ 7 + s.blk.addr.toNat))
      (BitVec.ofNat 32 (s.blk.calv.toNat * 2 ^ 16 + s.blk.cfg.toNat)))) := by
  rw [← einfo_wrongState, ← setWidth_ofBool_append, ← setWidth_ofBool_append]
  rfl

theorem exec_getcal_of_calv {s : State} (hv : s.blk.calv = true) :
    exec .getcal s = .next (s.afterCommand []
      (.ok (zext64 s.blk.cal.toNat) (zext32 s.blk.ilsb.toNat) (zext32 s.blk.plsb.toNat))) :=
  runCommand_of_allowed _ rfl hv

/-! ### The typed reads (44_driver_sequencer.md R164 to R166) -/

section

variable {i : Instr} {s : State}

/-- A command whose first transaction is a read ends with it when the read fails. -/
theorem runCommand_memRead_of_fail {r : RegNum} {next : Word → State → State} {k : FailKind}
    (hf : operandFault i = none) (ha : allowed s.blk i = true) (h : s.answer (.read s.blk.addr r) = .fail k) :
    runCommand i (fun s => memRead r s next) s =
      .next (s.afterCommand [.read s.blk.addr r (.fail k)] (.err .busIOError (busInfo k 0))) := by
  rw [runCommand_of_allowed _ hf ha, memRead_of_fail (s := s.beginCommand) _ ((State.answer_beginCommand s _).trans h),
    ← State.respond_record_beginCommand, ← einfo_busIO (by decide)]
  rfl

/-- The states before READY refuse a command that only READY allows. -/
theorem refusedWith_wrongState_before_ready (hf : operandFault i = none)
    (ha : allowed s.blk i = (s.blk.fsm == .ready))
    (h : s.blk.fsm = .uninit ∨ s.blk.fsm = .located ∨ s.blk.fsm = .configured) :
    RefusedWith i s .wrongStateError (BitVec.ofNat 64 (fsmNumber s.blk.fsm)) := by
  have hne : s.blk.fsm ≠ .closed ∧ s.blk.fsm ≠ .ready := by obtain h | h | h := h <;> simp [h]
  exact refusedWith_wrongState hf hne.1 (ha.trans (beq_false_of_ne hne.2))

end

/-- The answer to a bus-voltage word, by the numbers of its two bytes (42_reading_decode.md R131). -/
theorem State.okBusVoltage_be16 (s : State) (b0 b1 : Byte) :
    s.okBusVoltage (decodeBusVoltage (be16 b0 b1)) =
      s.ok (BitVec.ofNat 64 ((b0.toNat * 256 + b1.toNat) / 8 * 4)) (BitVec.ofNat 32 (b1.toNat / 2 % 2))
        (BitVec.ofNat 32 (b1.toNat % 2)) := by
  have hready : (conversionReady (be16 b0 b1)).toNat = b1.toNat / 2 % 2 := by
    rw [conversionReady_toNat, be16_toNat]
    omega
  have hoverflow : (mathOverflow (be16 b0 b1)).toNat = b1.toNat % 2 := by
    rw [mathOverflow_toNat, be16_toNat]
    omega
  rw [← hready, ← hoverflow, ← be16_toNat, ← decodeBusVoltage_mv]
  rfl

section

variable {s : State} {b0 b1 : Byte} (hr : s.blk.fsm = .ready) (h : s.answer (.read s.blk.addr 2#8) = .ok b0 b1)
include hr h

/-- What RDVBUS does with its first word. -/
theorem exec_rdvbus_of_first_word :
    exec .rdvbus s = .next (if b1.getLsbD 1 then
        (s.beginCommand.record (.read s.blk.addr 2#8 (.ok b0 b1))).okBusVoltage (decodeBusVoltage (be16 b0 b1))
      else memRead 2#8 (s.beginCommand.record (.read s.blk.addr 2#8 (.ok b0 b1))) fun v s =>
        s.okBusVoltage (decodeBusVoltage v)) := by
  rw [← conversionReady_be16 b0 b1]
  calc exec .rdvbus s
    _ = .next (memRead 2#8 s.beginCommand _) := runCommand_of_allowed _ rfl (by simp [allowed, hr])
    _ = _ := by rw [memRead_beginCommand_of_ok _ h]

variable (hbit : b1.getLsbD 1 = false)
include hbit

theorem exec_rdvbus_of_second_ok {c0 c1 : Byte}
    (h' : s.answerAfter [.read s.blk.addr 2#8 (.ok b0 b1)] (.read s.blk.addr 2#8) = .ok c0 c1) :
    exec .rdvbus s = .next (s.afterCommand [.read s.blk.addr 2#8 (.ok b0 b1), .read s.blk.addr 2#8 (.ok c0 c1)]
      (.ok (BitVec.ofNat 64 ((c0.toNat * 256 + c1.toNat) / 8 * 4)) (BitVec.ofNat 32 (c1.toNat / 2 % 2))
        (BitVec.ofNat 32 (c1.toNat % 2)))) := by
  have hanswer : (s.beginCommand.record (.read s.blk.addr 2#8 (.ok b0 b1))).answer (.read s.blk.addr 2#8) =
      .ok c0 c1 := by simpa using h'
  rw [exec_rdvbus_of_first_word hr h, hbit, if_neg Bool.false_ne_true, memRead_of_ok _ hanswer,
    State.okBusVoltage_be16, ← State.respond_recordAll_beginCommand]
  rfl

theorem exec_rdvbus_of_second_fail {k : FailKind}
    (h' : s.answerAfter [.read s.blk.addr 2#8 (.ok b0 b1)] (.read s.blk.addr 2#8) = .fail k) :
    exec .rdvbus s = .next (s.afterCommand [.read s.blk.addr 2#8 (.ok b0 b1), .read s.blk.addr 2#8 (.fail k)]
      (.err .busIOError (busInfo k 1))) := by
  have hanswer : (s.beginCommand.record (.read s.blk.addr 2#8 (.ok b0 b1))).answer (.read s.blk.addr 2#8) =
      .fail k := by simpa using h'
  rw [exec_rdvbus_of_first_word hr h, hbit, if_neg Bool.false_ne_true, memRead_of_fail _ hanswer,
    ← State.respond_recordAll_beginCommand, ← einfo_busIO (by decide)]
  rfl

end

end Sys2Proof.Machine

namespace Sys2Proof.Proofs

open Sys2Proof.Machine Sys2Proof.Claims

/-- Settles O26: LOCATEP is the scan of the probe range and commits the address it stops at. -/
theorem locatepResolvesFirstAcknowledgingAddress : Obligations.LocatepResolvesFirstAcknowledgingAddress := by
  intro s
  refine ⟨hasPattern_of_row (by decide), fun n hn hu hsilent hack => ?found, fun hu hsilent => ?notFound,
    fun hc => ?closed, fun hd => ?located⟩
  case found => exact exec_locatep_of_acksAt hu hn hsilent hack
  case notFound => exact exec_locatep_of_silent hu hsilent
  case closed => exact refusedWith_driverClosed rfl rfl hc
  case located =>
    exact refusedWith_wrongState rfl (ne_closed_of_driving hd) (beq_false_of_ne (ne_uninit_of_driving hd))

/-- Settles O42: the table's cell is the branch the prologue takes, and no body raises one of its failures. -/
theorem statesGateCommandsAsTabulated : Obligations.StatesGateCommandsAsTabulated := by
  intro i s hw hinv
  have hf : operandFault i = none := (operandFault_eq_none_iff i).mpr hw
  rw [permission_eq hinv i]
  by_cases hc : needsHandle i = true ∧ s.blk.fsm = .closed
  · rw [if_pos hc]
    exact ⟨nofun, fun _ => refusedWith_driverClosed hf hc.1 hc.2, nofun⟩
  · rw [if_neg hc]
    by_cases ha : allowed s.blk i = true
    · rw [if_pos ha]
      refine ⟨fun _ => ?_, nofun, nofun⟩
      obtain ⟨t, ht, r, hr, hpast⟩ := exec_answeredPastGates hf ha
      exact ⟨t, r, ht, hr, hpast⟩
    · rw [if_neg ha]
      exact ⟨nofun, nofun, fun _ => refusedWith_wrongState_of_not_allowed hf hc (Bool.eq_false_of_not_eq_true ha)⟩

/-- Settles O25: LOCATEA commits its operand in UNINIT; the range is tested before the driver state. -/
theorem locateaResolvesTheAddress : Obligations.LocateaResolvesTheAddress := by
  intro addr s
  have hpattern : HasPattern (.locatea addr) 0xFFFFFF80FFFFFFFF#64 0x5000000000000000#64 :=
    hasPattern_of_row (by simp [opcodeTable, Instr.mnemonic])
  refine ⟨⟨hpattern, Instr.locatea.inj (readOperands_encode (.locatea addr))⟩, fun ha hu => ?uninit,
    fun ha => ?badAddress, fun ha hc => ?closed, fun ha hd => ?located⟩
  case uninit => exact exec_locatea_of_uninit hu ha
  case badAddress => exact refusedWith_illegalCommand (operandFault_locatea_of_not_inBusRange ha)
  case closed => exact refusedWith_driverClosed (operandFault_locatea_of_inBusRange ha) rfl hc
  case located =>
    exact refusedWith_wrongState (operandFault_locatea_of_inBusRange ha) (ne_closed_of_driving hd)
      (beq_false_of_ne (ne_uninit_of_driving hd))

/-- Settles O27: CONFIGURE is `Reconfigure` in LOCATED, leaving CONFIGURED. -/
theorem configureWritesCalibrationThenConfig : Obligations.ConfigureWritesCalibrationThenConfig := by
  intro shunt imax brng pg badc sadc mode s
  have hpattern : HasPattern (.configure shunt imax brng pg badc sadc mode) 0xFFFEC00800000000#64
      0x5200000000000000#64 := hasPattern_of_row (by simp [opcodeTable, Instr.mnemonic])
  refine ⟨⟨hpattern, Instr.configure.inj (readOperands_encode (.configure shunt imax brng pg badc sadc mode))⟩,
    reconfigures_configure, refusedWith_driverClosed rfl rfl, fun h => ?wrongState⟩
  have hne : s.blk.fsm ≠ .closed ∧ s.blk.fsm ≠ .located := by obtain h | h | h := h <;> simp [h]
  exact refusedWith_wrongState rfl hne.1 (beq_false_of_ne hne.2)

/-- Settles O28: ENABLE writes the driver state in CONFIGURED alone. -/
theorem enableMarksTheDriverReady : Obligations.EnableMarksTheDriverReady := by
  intro s
  refine ⟨hasPattern_of_row (by decide), exec_enable_of_configured, refusedWith_driverClosed rfl rfl,
    fun h => ?wrongState⟩
  have hne : s.blk.fsm ≠ .closed ∧ s.blk.fsm ≠ .configured := by obtain h | h | h := h <;> simp [h]
  exact refusedWith_wrongState rfl hne.1 (beq_false_of_ne hne.2)

/-- Settles O29: one framed read of Current, scaled by the shadow. -/
theorem rdcurScalesSignedCurrent : Obligations.RdcurScalesSignedCurrent := by
  intro s
  refine ⟨hasPattern_of_row (by decide), fun b0 b1 => exec_rdcur_of_ok, fun k hr h => ?busError,
    refusedWith_driverClosed rfl rfl, refusedWith_wrongState_before_ready rfl rfl⟩
  exact runCommand_memRead_of_fail rfl (by simp [allowed, hr]) h

/-- Settles O30: the first word's conversion-ready bit decides between its answer and a second framed read. -/
theorem rdvbusRetriesOnceWhenNotReady : Obligations.RdvbusRetriesOnceWhenNotReady := by
  intro s
  refine ⟨hasPattern_of_row (by decide), fun b0 b1 hr h hbit => ?ready,
    fun b0 b1 c0 c1 hr h hbit h' => exec_rdvbus_of_second_ok hr h hbit h', fun k hr h => ?firstFails,
    fun b0 b1 k hr h hbit h' => exec_rdvbus_of_second_fail hr h hbit h', refusedWith_driverClosed rfl rfl,
    refusedWith_wrongState_before_ready rfl rfl⟩
  case ready =>
    have hone : b1.toNat / 2 % 2 = 1 := by
      rw [← Nat.toNat_testBit b1.toNat 1]
      exact congrArg Bool.toNat hbit
    rw [exec_rdvbus_of_first_word hr h, if_pos hbit, State.okBusVoltage_be16, hone]
    exact congrArg _ (State.respond_record_beginCommand ..)
  case firstFails => exact runCommand_memRead_of_fail rfl (by simp [allowed, hr]) h

/-- Settles O31: one framed read of Power, scaled by the shadow. -/
theorem rdpwrScalesUnsignedPower : Obligations.RdpwrScalesUnsignedPower := by
  intro s
  refine ⟨hasPattern_of_row (by decide), fun b0 b1 hr h => ?ok, fun k hr h => ?busError,
    refusedWith_driverClosed rfl rfl, refusedWith_wrongState_before_ready rfl rfl⟩
  case ok =>
    rw [exec_rdpwr_of_ok hr h, scalePower, be16_toNat]
    rfl
  case busError => exact runCommand_memRead_of_fail rfl (by simp [allowed, hr]) h

/-- Settles O32: RECONF is `Reconfigure` in CONFIGURED and READY, leaving the driver state. -/
theorem reconfRewritesBothRegisters : Obligations.ReconfRewritesBothRegisters := by
  intro shunt imax brng pg badc sadc mode s
  have hpattern : HasPattern (.reconf shunt imax brng pg badc sadc mode) 0xFFFEC00800000000#64
      0x5700000000000000#64 := hasPattern_of_row (by simp [opcodeTable, Instr.mnemonic])
  refine ⟨⟨hpattern, Instr.reconf.inj (readOperands_encode (.reconf shunt imax brng pg badc sadc mode))⟩,
    reconfigures_reconf, refusedWith_driverClosed rfl rfl, fun h => ?wrongState⟩
  obtain h | h := h <;> exact refusedWith_wrongState rfl (by simp [h]) (by simp [allowed, h])

/-- Settles O33: CLOSE writes the driver state alone; in CLOSED the handle decides who is refused. -/
theorem closeGivesUpTheBus : Obligations.CloseGivesUpTheBus := by
  intro s
  refine ⟨hasPattern_of_row (by decide), exec_close_of_ne_closed, refusedWith_driverClosed rfl rfl,
    fun i hc hw hp hst hcal => ?refused, fun i _ hp => ?pureAnswers⟩
  case refused =>
    exact refusedWith_driverClosed ((operandFault_eq_none_iff i).mpr hw) (needsHandle_of_mnemonic hp hst hcal) hc
  case pureAnswers =>
    obtain ⟨hf, ha⟩ := ungated_of_pure hp s.blk
    obtain ⟨t, ht, r, hr, hpast⟩ := exec_answeredPastGates hf ha
    exact ⟨t, r, ht, hr, fun e => ⟨(hpast e).1, (hpast e).2.1⟩⟩

/-- Settles O34: GETST answers the three elements as numbers, and every state allows it. -/
theorem getstReportsTheDriverState : Obligations.GetstReportsTheDriverState := by
  intro s
  exact ⟨hasPattern_of_row (by decide), exec_getst s⟩

/-- Settles O35: `S.CALV` is the gate of GETCAL, which needs no handle. -/
theorem getcalReportsTheShadow : Obligations.GetcalReportsTheShadow := by
  intro s
  refine ⟨hasPattern_of_row (by decide), exec_getcal_of_calv, fun hv => ?uncalibrated⟩
  exact refusedWith_wrongState_of_not_allowed rfl (by simp [needsHandle]) hv

end Sys2Proof.Proofs
/-! Failures (60_exceptions.md): the numbers of a failing response, and what a command leaves behind when it fails or
when it is pure. -/

namespace Sys2Proof.Machine

open Sys2Proof.Claims

/-! ### The numbers of a failure (60_exceptions.md R200, R203) -/

theorem ErrStatus.code_lt (e : ErrStatus) : e.code.toNat < 7 := by
  cases e <;> decide

theorem Response.st_lt (r : Response) : r.st.toNat < 7 := by
  cases r with
  | ok => exact Nat.zero_lt_succ 6
  | err status => exact status.code_lt

theorem einfo_busIO_toNat (k : FailKind) {n : Nat} (hn : n < 256) :
    (Failure.busIO k n).einfo.toNat = n * 256 + kindNumber k := by
  have hk := kindNumber_lt k
  rw [einfo_busIO hn, busInfo, BitVec.toNat_ofNat]
  omega

theorem einfo_wrongState_toNat (f : Fsm) : (Failure.wrongState f).einfo.toNat = fsmNumber f := by
  cases f <;> rfl

/-! ### What a command leaves behind (60_exceptions.md R205, R206) -/

/-- The four effects that write the block answer OK, so a failure is the effect that leaves it. -/
theorem CommandEffect.eq_afterCommand_of_err {i : Instr} {s t : State} {status : ErrStatus} {einfo : BitVec 64}
    (h : CommandEffect i s t) (hr : t.resp = some (.err status einfo)) :
    t = s.afterCommand t.txns (.err status einfo) := by
  cases h with
  | leavesBlock ts r =>
    obtain rfl : r = .err status einfo := Option.some.inj hr
    rfl
  | locates | commits | enables | closes => simp at hr

/-- CALC answers from its operands alone: what `ComputeCal` returns does not depend on the state. -/
theorem exec_calcCal_eq_afterCommand (shunt imax : BitVec 16) (brng : BitVec 1) (pg : BitVec 2) (badc sadc : BitVec 4) :
    ∃ r, ∀ s, exec (.calcCal shunt imax brng pg badc sadc) s = .next (s.afterCommand [] r) := by
  obtain ⟨r, hr⟩ := exec_calcCal_eq_respond shunt imax brng pg badc sadc
  exact ⟨r, fun s => congrFun hr s⟩

end Sys2Proof.Machine

namespace Sys2Proof.Proofs

open Sys2Proof.Machine Sys2Proof.Claims

/-- Settles O41: of the effects of a command only `leavesBlock` can hold a failure. -/
theorem failureLeavesNoTraceInTheBlock : Obligations.FailureLeavesNoTraceInTheBlock := by
  intro i s t status einfo h hr
  exact (effect_of_exec h).eq_afterCommand_of_err hr

/-- Settles O7: the first branch of `step`. -/
theorem idleBlockStaysAsItIs : Obligations.IdleBlockStaysAsItIs := by
  intro s hp
  simp [step, hp]

/-- Settles O37: the seven numbers as tabulated, and every response has one of them. -/
theorem statusTakesSevenValues : Obligations.StatusTakesSevenValues :=
  ⟨fun _ _ _ => rfl, fun _ => rfl, fun _ => rfl, fun _ => rfl, fun _ => rfl, fun _ => rfl, fun _ => rfl, Response.st_lt⟩

/-- Settles O38: only the two bytes of a bus failure and the number of `S.FSM` vary. -/
theorem errorInformationLayout : Obligations.ErrorInformationLayout :=
  ⟨fun k _ hn => einfo_busIO_toNat k hn, rfl, rfl, rfl, rfl, rfl, rfl, rfl, rfl, rfl, einfo_wrongState_toNat,
    fun _ _ => ⟨rfl, rfl, rfl⟩⟩

/-- Settles O54: each pure command has one answer, given by what it computes from its operands. -/
theorem pureCommandsDependOnNoState : Obligations.PureCommandsDependOnNoState := by
  intro i hi
  cases i with
  | enccfg brng pg badc sadc mode => exact ⟨_, exec_enccfg brng pg badc sadc mode⟩
  | deccfg raw => exact ⟨_, exec_deccfg raw⟩
  | decs16 raw => exact ⟨_, exec_decs16 raw⟩
  | decbv raw => exact ⟨_, exec_decbv raw⟩
  | cvti raw scale => exact ⟨_, exec_cvti raw scale⟩
  | cvtv count => exact ⟨_, exec_cvtv count⟩
  | cvtp raw scale => exact ⟨_, exec_cvtp raw scale⟩
  | calcCal shunt imax brng pg badc sadc => exact exec_calcCal_eq_afterCommand shunt imax brng pg badc sadc
  | _ => simp [pureCommands, Instr.mnemonic] at hi

end Sys2Proof.Proofs
/-! Reset (70_reset_and_hazards.md R230, R231): the step on `rst`, and the whole state it leaves. -/

namespace Sys2Proof.Machine

theorem step_of_rst {s : State} (h : s.port.head? = some .rst) : step s = .next s.takeInput.resetBlock := by
  obtain ⟨rest, hp⟩ := List.head?_eq_some_iff.mp h
  simp only [step, hp]

/-- The environment `env` is not among the fields written: a reset leaves its answers as they are. -/
theorem State.resetBlock_takeInput (s : State) :
    s.takeInput.resetBlock =
      { s with blk := Block.reset, resp := none, txns := [], past := s.past ++ s.txns, port := s.port.tail } := rfl

end Sys2Proof.Machine

namespace Sys2Proof.Proofs

open Sys2Proof.Machine Sys2Proof.Claims

/-- Settles O8: a presented `rst` takes the input and resets the block, which reads and writes no bus. -/
theorem resetInputClearsBlockWithoutBus : Obligations.ResetInputClearsBlockWithoutBus := by
  intro s h
  rw [step_of_rst h, State.resetBlock_takeInput]

end Sys2Proof.Proofs
